-- ==== Sys2Proof/Word.lean ====
section
/-! DEFINITION. Word.lean: the widths the spec gives (10_state.md R22 to R26, 00_scope.md R11).

Registers, memory bytes and operands are 8 bits (`Byte`); PC and every address are 16 bits (`Addr`);
a colour channel, a pen and a collision number are 4 bits (`Nibble`); a displayed colour is 12 bits
(`Colour`). A tick is a count of clock cycles that never decreases (R20), so it is a `Nat`
(assumption 1). -/

namespace Sys2Proof

/-- A `u8` of the spec (R11, R165). -/
abbrev Byte := BitVec 8

/-- A `u16` of the spec: PC and every address (R22, R80). -/
abbrev Addr := BitVec 16

/-- A 4-bit value: a colour channel, a pen, a collision number (R40, R536). -/
abbrev Nibble := BitVec 4

/-- A displayed colour: 4-bit green, blue and red, green in the high nibble (R39, R521). -/
abbrev Colour := BitVec 12

end Sys2Proof
end

