-- ==== Sys2Proof/Machine/Bits.lean ====
section
/-! DEFINITION. Machine/Bits.lean: bit fields, byte order and sign extension (00_scope.md R11,
20_memory.md R88, 30_encoding.md R162 to R164). -/

namespace Sys2Proof.Machine

/-- `a[15:8]` (R11). -/
def hiByte (a : Addr) : Byte := a.extractLsb' 8 8

/-- `a[7:0]` (R11). -/
def loByte (a : Addr) : Byte := a.extractLsb' 0 8

/-- `hi:lo`, that is `hi * 256 + lo` (R11, R88). -/
def pair (hi lo : Byte) : Addr := hi ++ lo

/-- `zext_16(b)` (R11): the zero-page address `b` (R162). -/
def zext (b : Byte) : Addr := b.setWidth 16

/-- `sext_16(b)` (R11, R164). -/
def sext (b : Byte) : Addr := b.signExtend 16

/-- The high nibble of a byte. -/
def hiNib (b : Byte) : Nibble := b.extractLsb' 4 4

/-- The low nibble of a byte. -/
def loNib (b : Byte) : Nibble := b.extractLsb' 0 4

/-- The same nibble in both halves of a byte (R535). -/
def bothNibs (n : Nibble) : Byte := n ++ n

/-- Whether two addresses lie in different 256-byte pages (R163, R164). -/
def crosses (a b : Addr) : Bool := hiByte a != hiByte b

/-- The stack address `0x0100 + S` (R24). -/
def stackAt (s : Byte) : Addr := 0x0100#16 + zext s

/-- One bit as a byte of value 0 or 1. -/
def bitByte (b : Bool) : Byte := if b then 1 else 0

end Sys2Proof.Machine
end

