-- ==== Sys2Proof/Config.lean ====
section
/-! DEFINITION. Config.lean: the parameters of the machine (00_scope.md R10, 10_state.md R43) and its
free values.

Each of them is an `opaque` constant, or is made from one so that the constraint the spec states holds:
nothing else can be proved about its value, so a statement about the model holds for every choice. Where
the spec states a default, the docstring names it, and the operation that uses the parameter takes it as
an argument, so that each choice can be followed by itself. -/

namespace Sys2Proof

/-- The two companion chips (R15, R42, R37): `a` is the graphics/math unit, `b` timers/display/audio. -/
inductive Chip where
  | a
  | b
deriving DecidableEq, Repr

/-- The four kinds of CPU bus request (R13, R29). A discard read is a `read`. -/
inductive ReqKind where
  | fetchOpcode
  | fetchOperand
  | read
  | write
deriving DecidableEq, Repr

/-- The kinds of sprite-engine request (R41, R102). -/
inductive SprKind where
  | finish
  | readByte
  | read4Bytes
  | writeByte
  | collRmw
  | videoRmw
  | xorRmw
deriving DecidableEq, Repr

/-- What a colliding pixel contributes to the collision depository (R10 `depo_source`, R536). -/
inductive DepoSource where
  | pixel
  | buffer
deriving DecidableEq, Repr, Inhabited

/-- What the sprite geometry is computed from (R538): the sprite's registers, the quadrant, the number
of the line inside the quadrant, and the decoded colours of that line. -/
structure RenderInput where
  sprctl0 : Byte
  sprctl1 : Byte
  hoff : Addr
  voff : Addr
  hposstrt : Addr
  vposstrt : Addr
  sprhsiz : Addr
  sprvsiz : Addr
  stretch : Addr
  tilt : Addr
  quadrant : BitVec 2
  line : Nat
  colours : List Nibble
deriving DecidableEq, Repr

namespace Config

/-- A free natural number from which `fastCost` is made. -/
opaque fastBase : Nat

/-- A free natural number from which `slowCost` is made. -/
opaque slowGap : Nat

/-- Ticks of a sequential CPU RAM/ROM access (R10, R110): any number above 0. -/
def fastCost : Nat := fastBase + 1

/-- Ticks of a non-sequential CPU RAM/ROM access or any write (R10, R110): any number above
`fastCost`. -/
def slowCost : Nat := fastCost + slowGap + 1

/-- A free function from which `chipCost` is made. -/
opaque chipWait : Chip → ReqKind → Addr → Nat

/-- Ticks of a CPU access to a companion-chip register (R112): at least 1, a function of the chip, the
request kind and the address only. -/
def chipCost (c : Chip) (k : ReqKind) (a : Addr) : Nat := chipWait c k a + 1

/-- Ticks of one sprite-engine request (R10 `spr_cost`, R102). -/
opaque sprCost : SprKind → Nat

/-- Ticks from hblank to the first DMA burst of a line (R10, R513). -/
opaque dmaFirstOffset : Nat

/-- Ticks between two DMA bursts of one line (R10, R514). -/
opaque dmaBurstInterval : Nat

/-- Ticks the arbiter adds when it services a burst (R10, R96). -/
opaque dmaBurstCost : Nat

/-- The nominal ticks-per-pixel constant (R10, R522). -/
opaque ticksPerPixel : Nat

/-- Ticks per second, used by `get_sample` alone (R10, R106). -/
opaque clockRate : Nat

/-- The kernel ROM image supplied by the image loader (R10 `boot_rom`, R604): byte `i`, `i < 512`. -/
opaque bootRom : Nat → Byte

/-- Whether a backup write also loads the count (R10 `BACKUP_LOADS_COUNT`, R484); the spec's default is
`true` (assumption 8). -/
opaque backupLoadsCount : Bool

/-- What a colliding pixel contributes to the depository (R10 `depo_source`, R536); the spec's default is
`PIXEL` (assumption 8). -/
opaque depoSource : DepoSource

/-- The address of the five discard reads of opcode 0x5C, from its operand bytes `hh` and `ll` (R10
`nop5c_addr`, R434); the spec's default is `0xFF00 | ll` (assumption 8). -/
opaque nop5cAddr : Byte → Byte → Addr

/-- The open part of `sprite_render` (R10, R538): the pixels `(x, y)` of the colour at an index of the
line, outside the one case the spec fixes. -/
opaque spriteRender : RenderInput → Nat → List (Int × Int)

/-- The value the `input` collaborator returns for a read of a chip A offset (R546), by draw number. -/
opaque inputByte : Nat → Byte → Byte

/-- The value the `serial` or `input` collaborator returns for a read of chip B 0xFD84..0xFD8D (R546),
by draw number. -/
opaque serialByte : Nat → Byte → Byte

/-- The audio collaborator's `(left, right)` pair, which `get_sample` returns (R106, R545), by draw number;
the spec gives no width. -/
opaque audioSample : Nat → Int × Int

/-- An unspecified byte (R487: bits 2..0 of a CTLB read), by draw number. -/
opaque freeByte : Nat → Byte

/-- An unspecified pixel colour (R515, R517, R522), by draw number and pixel number. -/
opaque freeColour : Nat → Nat → Colour

end Config

end Sys2Proof
end

