-- ==== Sys2Proof/Machine/State.lean ====
section
/-! DEFINITION. Machine/State.lean: every piece of state the spec gives the machine (10_state.md), the
reasons a step can stop, and the state after power-on (70_reset_and_hazards.md R600). Plain data. -/

namespace Sys2Proof.Machine

/-! ## The event queue (R21, R90) -/

/-- The kinds of scheduled action (R90). -/
inductive Kind where
  | dma
  | timer (n : Fin 12)
  | irqUpdate
  | endFrame
deriving DecidableEq, Repr

/-- A scheduled action (R21). -/
structure Action where
  tick : Nat
  kind : Kind
deriving DecidableEq, Repr

/-! ## CPU registers (R22 to R26) -/

/-- The six stored flags of P (R26); bits 5 and 4 of the byte are not stored. -/
structure Flags where
  n : Bool
  v : Bool
  d : Bool
  i : Bool
  z : Bool
  c : Bool
deriving DecidableEq, Repr

/-- The CPU registers (R22). -/
structure Regs where
  a : Byte
  x : Byte
  y : Byte
  s : Byte
  pc : Addr
  p : Flags
deriving DecidableEq, Repr

/-- The three general-purpose registers (R23). -/
inductive Reg where
  | a
  | x
  | y
deriving DecidableEq, Repr

/-- The flags the flag instructions name (R421 to R427). -/
inductive FlagName where
  | c
  | i
  | d
  | v
deriving DecidableEq, Repr

/-! ## The CPU's continuation (R29, R202)

The continuation is data: the bus-request sequence that is still to run, one `Micro` for each request
or internal operation of the tables of 40_cpu_machine.md R210 to R214. -/

/-- The operation `f` of a read-modify-write instruction (R212). -/
inductive Rmw where
  | asl
  | lsr
  | rol
  | ror
  | inc
  | dec
  | tsb
  | trb
deriving DecidableEq, Repr

/-- What an instruction does to the registers once its value has been read. -/
inductive Act where
  /-- `r <- v; setNZ(r)` (R261 to R263, R278, R280, R281). -/
  | load (r : Reg)
  /-- R305. -/
  | adc
  /-- R306. -/
  | sbc
  /-- R307. -/
  | and
  /-- R308. -/
  | ora
  /-- R309. -/
  | eor
  /-- R310 with the named register. -/
  | cmp (r : Reg)
  /-- R314, every mode but immediate. -/
  | bit
  /-- R314, immediate: Z alone. -/
  | bitImm
  /-- `r <- r + 1; setNZ(r)` (R317, R318). -/
  | incReg (r : Reg)
  /-- `r <- r - 1; setNZ(r)` (R319, R320). -/
  | decReg (r : Reg)
  /-- `dst <- src; setNZ(dst)` (R268 to R271). -/
  | move (src dst : Reg)
  /-- R272. -/
  | tsx
  /-- R273: no flag. -/
  | txs
  /-- R421 to R427. -/
  | flag (f : FlagName) (b : Bool)
  /-- The accumulator form of a read-modify-write instruction (R212 row acc). -/
  | rmwA (op : Rmw)
  /-- The flags of a memory read-modify-write, written when the write completes (R212). -/
  | rmwSetFlags (op : Rmw)
  /-- All six flags from the pulled byte (R279, R394). -/
  | pullFlags
  /-- `P.I <- 1; P.D <- 0` (R395, R458, R461). -/
  | mask
  /-- `PC <- hi:lo`. -/
  | jump
  /-- `PC <- hi:lo + 1` (R393). -/
  | jumpNext
  /-- `PC <- a`. -/
  | goto (a : Addr)
deriving DecidableEq, Repr

/-- Where a request's address comes from when the request is emitted. -/
inductive Place where
  | fixed (a : Addr)
  | pc
  /-- `0x0100 + S` (R24). -/
  | stack
  /-- The saved effective address. -/
  | ea
  /-- The saved pair `hi:lo`. -/
  | pair
deriving DecidableEq, Repr

/-- The local a read's byte is saved in (R202). -/
inductive Loc where
  | lo
  | hi
  | val
deriving DecidableEq, Repr

/-- One element of a bus sequence: an internal operation, which takes no request (R200), or a request. -/
inductive Micro where
  /-- Internal: save an effective address known from the operand bytes and index registers. -/
  | setEa (a : Addr)
  /-- Internal: save the immediate operand as the value read. -/
  | setVal (b : Byte)
  /-- Internal: save an operand byte as the low byte of the pair. -/
  | setLo (b : Byte)
  /-- Internal: `ea <- hi:lo + off`, and whether that crosses a page (R163). -/
  | pointer (off : Byte)
  /-- Internal: write registers and flags. -/
  | act (e : Act)
  /-- `Discard(a)` (R13, R207). -/
  | discard (p : Place)
  /-- The `+p` request: `Discard(a)` if the saved sum crossed a page (R210). -/
  | discardIfCrossed (p : Place)
  /-- `MemRead(a, 1)` into a local. -/
  | read (p : Place) (dst : Loc)
  /-- JSR's late operand fetch: a FETCH_OPERAND at PC into `hi` (R214). -/
  | operandHi
  /-- `MemWrite(a, 1, b)`. -/
  | write (p : Place) (b : Byte)
  /-- The write of a read-modify-write: `MemWrite(a, 1, f(val))` (R212). -/
  | writeBack (p : Place) (op : Rmw)
  /-- `Push(b)` (R13). -/
  | push (b : Byte)
  /-- `Pull()` into a local (R13). -/
  | pull (dst : Loc)
deriving DecidableEq, Repr

/-- The saved locals of a sequence (R202). The opcode and the operand bytes are in `Cont.operands`
while they are fetched, and in the sequence itself after that. -/
structure Locals where
  lo : Byte
  hi : Byte
  val : Byte
  ea : Addr
  crossed : Bool
deriving DecidableEq, Repr

/-- The locals at a fetch boundary, where no sequence is under way. -/
def Locals.clear : Locals := { lo := 0, hi := 0, val := 0, ea := 0, crossed := false }

/-- A CPU bus request (R29). -/
structure Request where
  kind : ReqKind
  addr : Addr
  value : Byte
deriving DecidableEq, Repr

/-- Which request of which sequence the CPU waits on (R29, R202). -/
inductive Cont where
  /-- The opcode fetch of the next instruction (R203). -/
  | boundary
  /-- An operand byte of opcode `op`; `got` are the operand bytes already fetched. -/
  | operands (op : Byte) (got : List Byte)
  /-- The request of the first element of a sequence. -/
  | running (seq : List Micro)
deriving DecidableEq, Repr

/-- The interrupt-pending mask (R28). -/
structure IrqMask where
  reset : Bool
  nmi : Bool
  irq : Bool
deriving DecidableEq, Repr

/-- Whether the arbiter may advance the CPU (R30). -/
inductive CpuRun where
  | run
  | sleep
  | stalled
deriving DecidableEq, Repr

/-! ## Timers (R35) -/

/-- One timer (R35). -/
structure Timer where
  backup : Byte
  count : Byte
  base : Nat
  enInt : Bool
  enReload : Bool
  enCount : Bool
  clk : BitVec 3
  done : Bool
  lastClock : Bool
  borrowIn : Bool
  borrowOut : Bool
  predicted : Option Nat
  lastFire : Option Nat
  extra : BitVec 2
deriving DecidableEq, Repr

/-! ## Display and palette (R39, R40) -/

/-- A palette write stamped with the tick at which the arbiter performed it (R40, R520). `reg` is the
chip B offset, 0xA0..0xBF. -/
structure PalWrite where
  tick : Nat
  reg : Byte
  value : Byte
deriving DecidableEq, Repr

/-- The frame being built (R39): the rows built so far, in rising order, each with its 160 colours.
A row not listed is unspecified: its pixels are the free values of draw `draw` (R515). -/
structure Frame where
  rows : List (Nat × List Colour)
  draw : Nat
deriving DecidableEq, Repr

/-- The display generator (R39). `lineMode` is DISPCTL as sampled when the row was opened (R510), and
`broken` says that the timing constraint of R513 was seen broken in this frame. -/
structure Display where
  dispctl : Byte
  dispadr : Addr
  dmaAddr : Addr
  row : Option Byte
  burst : Nat
  lineBytes : Vector Byte 80
  lineTick : Nat
  burstTick : Vector Nat 10
  flushed : Nat
  frame : Frame
  lineMode : Byte
  broken : Bool
deriving DecidableEq, Repr

/-! ## Sprite engine and chip A registers (R41, R42) -/

/-- The sprite engine's state (R41). -/
inductive SprState where
  | idle
  | walkScbList
  | loadScb
  | renderSprite
  | finished
deriving DecidableEq, Repr

/-- A sprite-engine request (R41, R102). -/
structure SprReq where
  kind : SprKind
  addr : Addr
  mask : Byte
  data : Byte
deriving DecidableEq, Repr

/-- A coalescing buffer (R41, R535). It is empty when `mask = 0`. -/
structure Coalesce where
  addr : Addr
  mask : Byte
  data : Byte
deriving DecidableEq, Repr

/-- The 16-bit registers an SCB loads (R532). -/
inductive ScbReg where
  | scbnext
  | sprdline
  | hposstrt
  | vposstrt
  | sprhsiz
  | sprvsiz
  | stretch
  | tilt
deriving DecidableEq, Repr

/-- What a request of the SCB load fills (R532). The low byte of a pair is read first and saved. -/
inductive ScbDst where
  | sprctl0
  | sprctl1
  | sprcoll
  | low
  | high (r : ScbReg)
  | pensLow
  | pensHigh
deriving DecidableEq, Repr

/-- A pixel inside the visible raster, with its colour (R535). -/
structure Pixel where
  x : Nat
  y : Nat
  c : Nibble
deriving DecidableEq, Repr

/-- What follows the flush of both buffers: the next line (R535), or the end of the run (R532). -/
inductive AfterFlush where
  | nextLine
  | finish
deriving DecidableEq, Repr

/-- The sprite engine's continuation point: which request it waits on (R41). -/
inductive SprCont where
  | none
  /-- The five bytes at the head of an SCB; the request of the first entry is in flight. -/
  | head (todo : List (ScbDst × Addr))
  /-- The rest of an SCB. -/
  | body (todo : List (ScbDst × Addr))
  /-- A line's offset byte (R534). -/
  | offset
  /-- A line's data: each entry is an address and whether four bytes are read there. -/
  | data (todo : List (Addr × Bool))
  /-- A collision flush, before the first pixel is added. -/
  | drawColl (pixels : List Pixel)
  /-- A video flush, after `p` was added to the collision buffer and before it is drawn. -/
  | drawVideo (p : Pixel) (pixels : List Pixel)
  /-- A flush at the end of a line or of the walk. -/
  | flush (after : AfterFlush)
  /-- The depository write (R536). -/
  | depo
  /-- FINISH (R533). -/
  | finish
deriving DecidableEq, Repr

/-- The sprite engine (R41): `quad`, `quadsDone`, `line`, `linePtr` and `bytes` are its saved locals. -/
structure Sprite where
  st : SprState
  scbAddr : Addr
  req : Option SprReq
  cont : SprCont
  video : Coalesce
  coll : Coalesce
  depo : Nibble
  everon : Bool
  quad : BitVec 2
  quadsDone : Nat
  line : Nat
  linePtr : Addr
  bytes : List Byte
deriving DecidableEq, Repr

/-- The chip A registers the sprite engine needs (R42), and the bytes stored at every other chip A
offset (R546), by offset. -/
structure ChipA where
  hoff : Addr
  voff : Addr
  vidbas : Addr
  collbas : Addr
  scbnext : Addr
  sprdline : Addr
  hposstrt : Addr
  vposstrt : Addr
  sprhsiz : Addr
  sprvsiz : Addr
  stretch : Addr
  tilt : Addr
  colloff : Addr
  sprctl0 : Byte
  sprctl1 : Byte
  sprcoll : Byte
  suzybusen : Byte
  sprgo : Byte
  sprsys : Byte
  pens : Vector Nibble 16
  other : List Host.Cell
deriving DecidableEq, Repr

/-! ## What leaves the machine -/

/-- What the machine hands to the host and the collaborators (R96 END_FRAME, R489, R515, R546, R621). -/
inductive Output where
  | frame (t : Nat) (f : Frame)
  | serialClock (t : Nat)
  | audioClock (k : Fin 4) (t : Nat)
  | serialWrite (offset value : Byte) (t : Nat)
  | endFrame (t : Nat)
deriving DecidableEq, Repr

/-! ## The machine -/

/-- The whole machine (10_state.md). `ram`, and the stored chip registers, are lists of (address, byte)
in one canonical form (Machine/Memory.lean). `draws` counts the free values read so far, and `out` is
what has left the machine, newest first; both are the model's own. -/
structure State where
  now : Nat
  queue : List Action
  regs : Regs
  irqMask : IrqMask
  req : Option Request
  cont : Cont
  loc : Locals
  cpuRun : CpuRun
  seqNext : Option Addr
  ram : List Host.Cell
  rom : List Byte
  mapctl : Byte
  timers : Vector Timer 12
  chipB : List Host.Cell
  intPending : Byte
  display : Display
  palette : List PalWrite
  spr : Sprite
  chipA : ChipA
  draws : Nat
  out : List Output
deriving DecidableEq, Repr

/-- Why the machine stops. Every constructor but `stuck` is one of the spec's `Fatal` conditions (R14,
R451): a broken precondition of the model, safe to stop on, and reached from no state of a run. -/
inductive Fault where
  /-- R107: no action is pending, the CPU cannot step and the sprite engine is idle. Raised by the
  arbiter step; safe, since the spec says that there is no step. -/
  | stuck
  /-- R215: the CPU is to be resumed and has no in-flight request. Raised by the CPU step; safe. -/
  | noCpuRequest
  /-- R215: the in-flight request is not of the kind the continuation waits on. Raised by the CPU step;
  safe. -/
  | wrongCpuRequest
  /-- R451: the sprite engine is to be resumed and has no pending request. Raised by the sprite step;
  safe. -/
  | noSpriteRequest
  /-- R451: the sprite engine's request has no handler in its continuation. Raised by the sprite step;
  safe. -/
  | wrongSpriteRequest
  /-- R91: an action is pushed with a tick before that of the computation that pushes it. Raised by
  `push`; safe. -/
  | pastSchedule
deriving DecidableEq, Repr

/-- Why an instruction has no meaning. -/
inductive Refusal where
  /-- Raised by an arm of `exec` whose instruction is not modelled; safe. No arm does. -/
  | notModelled (mnemonic : String)
deriving DecidableEq, Repr

/-! ## Power-on (R600) -/

/-- A timer at power-on (R35). `backup`, `count` and the status bits are unspecified there:
assumption 4. -/
def Timer.reset : Timer :=
  { backup := 0, count := 0, base := 0, enInt := false, enReload := false, enCount := false, clk := 0
    done := false, lastClock := false, borrowIn := false, borrowOut := false, predicted := none
    lastFire := none, extra := 0 }

/-- The display generator at power-on (R39); `dispadr`, `dmaAddr` and `lineBytes`: assumption 4. -/
def Display.reset : Display :=
  { dispctl := 0, dispadr := 0, dmaAddr := 0, row := none, burst := 0
    lineBytes := Vector.replicate 80 0, lineTick := 0, burstTick := Vector.replicate 10 0, flushed := 0
    frame := { rows := [], draw := 0 }, lineMode := 0, broken := false }

/-- An empty coalescing buffer (R41). -/
def Coalesce.empty : Coalesce := { addr := 0, mask := 0, data := 0 }

/-- The sprite engine at power-on (R41); `scbAddr` and the saved locals: assumption 4. -/
def Sprite.reset : Sprite :=
  { st := .idle, scbAddr := 0, req := none, cont := .none, video := Coalesce.empty
    coll := Coalesce.empty, depo := 0, everon := false, quad := 0, quadsDone := 0, line := 0
    linePtr := 0, bytes := [] }

/-- The chip A registers at power-on (R42); all but SUZYBUSEN, SPRGO and SPRSYS: assumption 4. -/
def ChipA.reset : ChipA :=
  { hoff := 0, voff := 0, vidbas := 0, collbas := 0, scbnext := 0, sprdline := 0, hposstrt := 0
    vposstrt := 0, sprhsiz := 0, sprvsiz := 0, stretch := 0, tilt := 0, colloff := 0, sprctl0 := 0
    sprctl1 := 0, sprcoll := 0, suzybusen := 0, sprgo := 0, sprsys := 0
    pens := Vector.replicate 16 0, other := [] }

/-- The reset sequence (R461, R462): the two vector reads, `P.I <- 1; P.D <- 0`, and the jump. -/
def resetSeq : List Micro :=
  [.read (.fixed 0xFFFC) .lo, .read (.fixed 0xFFFD) .hi, .act .mask, .act .jump]

/-- The machine right after power-on (R600): the CPU is inside the reset sequence, with `READ 0xFFFC`
in flight (R462). A, X, Y, S, PC, N, V, Z and C: assumptions 3 and 4; RAM: assumption 2. -/
def State.reset : State :=
  { now := 0, queue := []
    regs := { a := 0, x := 0, y := 0, s := 0, pc := 0
              p := { n := false, v := false, d := false, i := true, z := false, c := false } }
    irqMask := { reset := false, nmi := false, irq := false }
    req := some { kind := .read, addr := 0xFFFC, value := 0 }
    cont := .running resetSeq, loc := Locals.clear, cpuRun := .run, seqNext := none
    ram := [], rom := (List.range 512).map Config.bootRom, mapctl := 0
    timers := Vector.replicate 12 Timer.reset, chipB := [], intPending := 0
    display := Display.reset, palette := [], spr := Sprite.reset, chipA := ChipA.reset
    draws := 1, out := [] }

end Sys2Proof.Machine
end

