-- ==== Sys2Proof/Machine/Memory.lean ====
section
/-! DEFINITION. Machine/Memory.lean: memory as a list of (address, byte) pairs in one canonical form,
and the 64 KB of RAM (10_state.md R32). The stored chip registers (R545, R546) are held in the same
form. -/

namespace Sys2Proof.Machine

/-- What an unlisted address reads as (assumption 2). -/
def unlisted : Byte := 0

/-- The byte at key `k`. -/
def memRead : List Host.Cell → Nat → Byte
  | [], _ => unlisted
  | (a, v) :: rest, k => if a = k then v else memRead rest k

/-- Memory with the byte at key `k` set to `v`, in canonical form if it was: addresses strictly rising,
no entry equal to what an unlisted address reads as. -/
def memWrite : List Host.Cell → Nat → Byte → List Host.Cell
  | [], k, v => if v = unlisted then [] else [(k, v)]
  | (a, u) :: rest, k, v =>
    if k < a then
      if v = unlisted then (a, u) :: rest else (k, v) :: (a, u) :: rest
    else if k = a then
      if v = unlisted then rest else (k, v) :: rest
    else (a, u) :: memWrite rest k v

/-- Addresses strictly rise, from `lo` and below `size`, and no entry is the unlisted byte. -/
def memWfFrom (size : Nat) : Nat → List Host.Cell → Bool
  | _, [] => true
  | lo, (a, v) :: rest => decide (lo ≤ a) && decide (a < size) && v != unlisted && memWfFrom size (a + 1) rest

/-- The canonical form of a memory of `size` bytes. -/
def Memory.wf (size : Nat) (m : List Host.Cell) : Bool := memWfFrom size 0 m

/-- `ram[a]` (R32, R86). -/
def ramRead (s : State) (a : Addr) : Byte := memRead s.ram a.toNat

/-- `ram[a] <- v` (R32, R86). -/
def ramWrite (s : State) (a : Addr) (v : Byte) : State := { s with ram := memWrite s.ram a.toNat v }

/-- The `n` bytes of RAM at `a`, wrapping modulo 2^16 (R96, R102). -/
def ramReads (s : State) (a : Addr) : Nat → List Byte
  | 0 => []
  | n + 1 => ramRead s a :: ramReads s (a + 1) n

/-- `rom[i]` (R33). -/
def romRead (s : State) (i : Nat) : Byte := s.rom.getD i 0

end Sys2Proof.Machine
end

