-- ==== Sys2Proof/Machine/Sprite.lean ====
section
/-! DEFINITION. Machine/Sprite.lean: the sprite engine as a bus agent (60_exceptions.md R530 to R538;
20_memory.md R102). Each function that advances the engine ends by emitting one request and saving the
continuation point that waits on it (R531). -/

namespace Sys2Proof.Machine

/-- Whether the engine owns the bus (R100). -/
def SprState.active : SprState → Bool
  | .idle => false
  | .walkScbList => true
  | .loadScb => true
  | .renderSprite => true
  | .finished => false

/-- Whether the engine owns the bus (R100). -/
def spriteActive (s : State) : Bool := s.spr.st.active

/-- The engine suspended on request `r` with continuation point `k` (R531). -/
def sprEmit (r : SprReq) (k : SprCont) (s : State) : State :=
  { s with spr := { s.spr with req := some r, cont := k } }

/-- A request without mask and data. -/
def sprRead (kind : SprKind) (a : Addr) : SprReq := { kind, addr := a, mask := 0, data := 0 }

/-! ## Type table (R535) -/

/-- The sprite type `ty = SPRCTL0[2:0]` (R535). -/
def sprType (s : State) : BitVec 3 := s.chipA.sprctl0.extractLsb' 0 3

/-- The "drawn" column of the type table (R535). -/
def typeDraws (ty : BitVec 3) (c : Nibble) : Bool :=
  match ty.toNat with
  | 0 => true
  | 1 => true
  | 2 => c != 0 && c != 0xF
  | 3 => c != 0 && c != 0xF
  | _ => c != 0

/-- The "collides" column of the type table (R535). -/
def typeCollides (ty : BitVec 3) (c : Nibble) : Bool :=
  match ty.toNat with
  | 0 => c != 0xE
  | 1 => false
  | 2 => c != 0 && c != 0xE
  | 3 => c != 0
  | 4 => c != 0
  | 5 => false
  | _ => c != 0 && c != 0xE

/-- Collision is off for the whole sprite when SPRCOLL bit 5 is 1 or SPRSYS bit 5 was last written 1
(R535). -/
def collisionOn (s : State) : Bool := !s.chipA.sprcoll.getLsbD 5 && !s.chipA.sprsys.getLsbD 5

/-- Whether a pixel of colour `c` is drawn (R535). -/
def draws (s : State) (c : Nibble) : Bool := typeDraws (sprType s) c

/-- Whether a pixel of colour `c` collides (R535). -/
def collides (s : State) (c : Nibble) : Bool := collisionOn s && typeCollides (sprType s) c

/-! ## Coalescing buffers (R535) -/

/-- `va` or `ca`: the byte of a pixel in a buffer at `base` (R535). -/
def pixelAddr (base : Addr) (p : Pixel) : Addr := base + BitVec.ofNat 16 (80 * p.y + p.x / 2)

/-- The nibble mask of a pixel: the high nibble for even `x` (R535). -/
def nibMask (p : Pixel) : Byte := if p.x % 2 = 0 then 0xF0 else 0x0F

/-- Whether `add(buf, a, ..)` first flushes (R535). -/
def Coalesce.mustFlush (b : Coalesce) (a : Addr) : Bool := b.mask != 0 && b.addr != a

/-- `add(buf, a, nib_mask, val)` after any flush (R535). -/
def Coalesce.add (b : Coalesce) (a : Addr) (m val : Byte) : Coalesce :=
  { addr := a, mask := b.mask ||| m, data := (b.data &&& ~~~m) ||| (val &&& m) }

/-- The address of a pixel in the collision buffer. -/
def collAddr (s : State) (p : Pixel) : Addr := pixelAddr s.chipA.collbas p

/-- The address of a pixel in the video buffer. -/
def videoAddr (s : State) (p : Pixel) : Addr := pixelAddr s.chipA.vidbas p

/-- `max` of two collision numbers. -/
def maxNib (a b : Nibble) : Nibble := if a < b then b else a

/-- The collision update of a pixel (R535). `src` is the parameter `depo_source`. -/
def addColl (src : DepoSource) (p : Pixel) (s : State) : State :=
  { s with
    spr :=
      { s.spr with
        coll := s.spr.coll.add (collAddr s p) (nibMask p) (bothNibs (loNib s.chipA.sprcoll))
        depo := if src = .pixel then maxNib s.spr.depo p.c else s.spr.depo } }

/-- The video update of a pixel (R535). -/
def addVideo (p : Pixel) (s : State) : State :=
  { s with
    spr :=
      { s.spr with
        video := s.spr.video.add (videoAddr s p) (nibMask p) (bothNibs p.c), everon := true } }

/-- The request of a collision flush; the buffer is then empty (R535). -/
def flushColl (k : SprCont) (s : State) : State :=
  let b := s.spr.coll
  sprEmit { kind := .collRmw, addr := b.addr, mask := b.mask, data := b.data } k
    { s with spr := { s.spr with coll := { b with mask := 0 } } }

/-- The request kind of a video flush (R535). -/
def videoFlushKind (ty : BitVec 3) (mask : Byte) : SprKind :=
  if ty = 6 then .xorRmw else if mask = 0xFF then .writeByte else .videoRmw

/-- The request of a video flush; the buffer is then empty (R535). -/
def flushVideo (k : SprCont) (s : State) : State :=
  let b := s.spr.video
  sprEmit { kind := videoFlushKind (sprType s) b.mask, addr := b.addr, mask := b.mask, data := b.data } k
    { s with spr := { s.spr with video := { b with mask := 0 } } }

/-! ## Lines (R534, R535) -/

/-- The next line's offset byte is read at `linePtr` (R534). -/
def readOffset (s : State) : State := sprEmit (sprRead .readByte s.spr.linePtr) .offset s

/-- What follows a flush of both buffers. -/
def afterFlush (k : AfterFlush) (s : State) : State :=
  match k with
  | .nextLine => readOffset s
  | .finish => sprEmit (sprRead .finish 0) .finish s

/-- Both buffers are flushed, collision first (R535). -/
def flushBoth (k : AfterFlush) (s : State) : State :=
  if s.spr.coll.mask != 0 then flushColl (.flush k) s
  else if s.spr.video.mask != 0 then flushVideo (.flush k) s
  else afterFlush k s

/-- The pixels of a line are added in turn, the collision update before the video update, up to the
first flush; after the last pixel both buffers are flushed (R535). -/
def drawPixels : List Pixel → State → State
  | [], s => flushBoth .nextLine s
  | p :: ps, s =>
    if collides s p.c && s.spr.coll.mustFlush (collAddr s p) then flushColl (.drawColl (p :: ps)) s
    else
      let s := if collides s p.c then addColl Config.depoSource p s else s
      if draws s p.c && s.spr.video.mustFlush (videoAddr s p) then flushVideo (.drawVideo p ps) s
      else drawPixels ps (if draws s p.c then addVideo p s else s)

/-- The bits of a byte, most significant first (R534). -/
def byteBits (b : Byte) : List Bool :=
  [b.getLsbD 7, b.getLsbD 6, b.getLsbD 5, b.getLsbD 4, b.getLsbD 3, b.getLsbD 2, b.getLsbD 1,
    b.getLsbD 0]

/-- The number a list of bits writes, most significant first. -/
def bitsValue (bits : List Bool) : Nat := bits.foldl (fun n b => 2 * n + b.toNat) 0

/-- The first `n` pens of `bpp` bits (R534). -/
def takePens (bpp : Nat) : Nat → List Bool → List Nibble
  | 0, _ => []
  | n + 1, bits => BitVec.ofNat 4 (bitsValue (bits.take bpp)) :: takePens bpp n (bits.drop bpp)

/-- A literal line: pens of `bpp` bits until fewer than `bpp` bits remain (R534). -/
def literalPens (bpp : Nat) (bits : List Bool) : List Nibble := takePens bpp (bits.length / bpp) bits

/-- A packed line (R534): decoding stops at the first record that does not fit in the remaining bits.
Every record takes more than one bit, so as many rounds as there are bits are enough. -/
def packedPens (bpp : Nat) : Nat → List Bool → List Nibble
  | 0, _ => []
  | fuel + 1, bits =>
    match bits with
    | [] => []
    | flag :: rest =>
      let count := bitsValue (rest.take 4)
      let rest' := rest.drop 4
      let len := if flag then (count + 1) * bpp else bpp
      if rest.length < 4 || rest'.length < len then []
      else
        (if flag then takePens bpp (count + 1) rest'
          else List.replicate count (BitVec.ofNat 4 (bitsValue (rest'.take bpp)))) ++
          packedPens bpp fuel (rest'.drop len)

/-- Bits per pen (R534). -/
def bitsPerPen (sprctl0 : Byte) : Nat := (sprctl0.extractLsb' 6 2).toNat + 1

/-- The pens of a line's data (R534). -/
def linePens (sprctl0 sprctl1 : Byte) (bytes : List Byte) : List Nibble :=
  let bits := bytes.flatMap byteBits
  if sprctl1.getLsbD 7 then literalPens (bitsPerPen sprctl0) bits
  else packedPens (bitsPerPen sprctl0) bits.length bits

/-- The colours of a line: each pen looked up in the pen table (R534). -/
def lineColours (s : State) (bytes : List Byte) : List Nibble :=
  (linePens s.chipA.sprctl0 s.chipA.sprctl1 bytes).map (fun k => s.chipA.pens.toList.getD k.toNat 0)

/-- What the geometry of the current line is computed from (R538). -/
def renderInput (s : State) (colours : List Nibble) : RenderInput :=
  let r := s.chipA
  { sprctl0 := r.sprctl0, sprctl1 := r.sprctl1, hoff := r.hoff, voff := r.voff
    hposstrt := r.hposstrt, vposstrt := r.vposstrt, sprhsiz := r.sprhsiz, sprvsiz := r.sprvsiz
    stretch := r.stretch, tilt := r.tilt, quadrant := s.spr.quad, line := s.spr.line, colours }

/-- The one case of the geometry that the spec fixes (R538). The flips are read as SPRCTL0[5:3]
(assumption 16). -/
def plainCase (r : RenderInput) : Bool :=
  r.quadrant == 0 && r.sprctl1.extractLsb' 0 2 == 0#2 && r.sprctl0.extractLsb' 3 3 == 0#3 &&
    r.sprhsiz == 0x0100 && r.sprvsiz == 0x0100 && r.stretch == 0 && r.tilt == 0

/-- `sprite_render` (R538): the pixels of colour `i` of the line. -/
def spriteRender (r : RenderInput) (i : Nat) : List (Int × Int) :=
  if plainCase r then [((r.hposstrt - r.hoff).toInt + i, (r.vposstrt - r.voff).toInt + r.line)]
  else Config.spriteRender r i

/-- The pixels inside the visible raster; the others are decoded and never written (R535). -/
def visiblePixels (c : Nibble) (ps : List (Int × Int)) : List Pixel :=
  (ps.filter (fun q => decide (0 ≤ q.1 ∧ q.1 < 160 ∧ 0 ≤ q.2 ∧ q.2 < 102))).map
    (fun q => { x := q.1.toNat, y := q.2.toNat, c := c })

/-- The pixels of a line, in the order of its colours (R535). -/
def linePixels (r : RenderInput) : List Pixel :=
  (r.colours.zipIdx.map (fun q => visiblePixels q.1 (spriteRender r q.2))).flatten

/-- The reads of `n` bytes of line data at `a`: four at a time where four or more remain (R534).
As many rounds as there are bytes are enough. -/
def dataReads : Nat → Addr → Nat → List (Addr × Bool)
  | 0, _, _ => []
  | fuel + 1, a, n =>
    if n = 0 then []
    else if n < 4 then (a, false) :: dataReads fuel (a + 1) (n - 1)
    else (a, true) :: dataReads fuel (a + 4) (n - 4)

/-- The request of a line-data read. -/
def dataReq (q : Addr × Bool) : SprReq := sprRead (if q.2 then .read4Bytes else .readByte) q.1

/-- The next read of the line's data, or, when all are done, the line's pixels (R534, R535). -/
def lineData (todo : List (Addr × Bool)) (s : State) : State :=
  match todo with
  | q :: _ => sprEmit (dataReq q) (.data todo) s
  | [] =>
    let r := renderInput s (lineColours s s.spr.bytes)
    drawPixels (linePixels r) { s with spr := { s.spr with line := s.spr.line + 1, bytes := [] } }

/-! ## SCB walk (R532) -/

/-- The reads at the head of an SCB: SPRCTL0, SPRCTL1, SPRCOLL and SCBNEXT (R532). -/
def scbHead (scb : Addr) : List (ScbDst × Addr) :=
  [(.sprctl0, scb), (.sprctl1, scb + 1), (.sprcoll, scb + 2), (.low, scb + 3), (.high .scbnext, scb + 4)]

/-- The two reads of a 16-bit field (R532). -/
def scbPair (r : ScbReg) (a : Addr) : List (ScbDst × Addr) := [(.low, a), (.high r, a + 1)]

/-- The reads of the rest of an SCB that is not skipped (R532); `k` counts the offset. -/
def scbBody (scb : Addr) (sprctl1 : Byte) : List (ScbDst × Addr) :=
  let reload := (sprctl1.extractLsb' 4 2).toNat
  let k₁ := scb + 11
  let k₂ := if reload ≥ 1 then k₁ + 4 else k₁
  let k₃ := if reload ≥ 2 then k₂ + 2 else k₂
  let k₄ := if reload = 3 then k₃ + 2 else k₃
  scbPair .sprdline (scb + 5) ++ scbPair .hposstrt (scb + 7) ++ scbPair .vposstrt (scb + 9) ++
    (if reload ≥ 1 then scbPair .sprhsiz k₁ ++ scbPair .sprvsiz (k₁ + 2) else []) ++
    (if reload ≥ 2 then scbPair .stretch k₂ else []) ++
    (if reload = 3 then scbPair .tilt k₃ else []) ++
    (if sprctl1.getLsbD 3 then [] else [(.pensLow, k₄), (.pensHigh, k₄ + 4)])

/-- The request of an SCB read (R532). -/
def scbReq (q : ScbDst × Addr) : SprReq :=
  match q.1 with
  | .pensLow => sprRead .read4Bytes q.2
  | .pensHigh => sprRead .read4Bytes q.2
  | .sprctl0 => sprRead .readByte q.2
  | .sprctl1 => sprRead .readByte q.2
  | .sprcoll => sprRead .readByte q.2
  | .low => sprRead .readByte q.2
  | .high _ => sprRead .readByte q.2

/-- A chip A register an SCB loads is set (R532). -/
def setScbReg (r : ScbReg) (v : Addr) (c : ChipA) : ChipA :=
  match r with
  | .scbnext => { c with scbnext := v }
  | .sprdline => { c with sprdline := v }
  | .hposstrt => { c with hposstrt := v }
  | .vposstrt => { c with vposstrt := v }
  | .sprhsiz => { c with sprhsiz := v }
  | .sprvsiz => { c with sprvsiz := v }
  | .stretch => { c with stretch := v }
  | .tilt => { c with tilt := v }

/-- `pen[2i] <- p_i[7:4]; pen[2i+1] <- p_i[3:0]` from index `i` (R532). -/
def setPens (v : Vector Nibble 16) (i : Nat) : List Byte → Vector Nibble 16
  | [] => v
  | b :: bs => setPens ((v.setIfInBounds i (hiNib b)).setIfInBounds (i + 1) (loNib b)) (i + 2) bs

/-- A byte read from the SCB goes to its register; the low byte of a pair and the first half of the pen
table are saved until the rest is read (R532). -/
def scbStore (d : ScbDst) (bytes : List Byte) (s : State) : State :=
  let b := bytes.headD 0
  match d with
  | .sprctl0 => { s with chipA := { s.chipA with sprctl0 := b } }
  | .sprctl1 => { s with chipA := { s.chipA with sprctl1 := b } }
  | .sprcoll => { s with chipA := { s.chipA with sprcoll := b } }
  | .low => { s with spr := { s.spr with bytes := [b] } }
  | .high r =>
    { s with chipA := setScbReg r (pair b (s.spr.bytes.headD 0)) s.chipA
             spr := { s.spr with bytes := [] } }
  | .pensLow => { s with spr := { s.spr with bytes := bytes } }
  | .pensHigh =>
    { s with chipA := { s.chipA with pens := setPens s.chipA.pens 0 (s.spr.bytes ++ bytes) }
             spr := { s.spr with bytes := [] } }

/-- The head of the walk (R532): a null SCBNEXT high byte ends the run, and otherwise the SCB there is
loaded. -/
def walk (s : State) : State :=
  if hiByte s.chipA.scbnext = 0 then flushBoth .finish s
  else
    let scb := s.chipA.scbnext
    sprEmit (sprRead .readByte scb) (.head (scbHead scb))
      { s with spr := { s.spr with st := .loadScb, scbAddr := scb } }

/-- A sprite's render starts (R534, R536, R537). -/
def startRender (s : State) : State :=
  readOffset
    { s with
      spr :=
        { s.spr with
          st := .renderSprite, depo := 0, everon := false, quad := s.chipA.sprctl1.extractLsb' 0 2
          quadsDone := 0, line := 0, linePtr := s.chipA.sprdline, bytes := [] } }

/-- The next read of the rest of an SCB, or the render (R532). -/
def loadBody (todo : List (ScbDst × Addr)) (s : State) : State :=
  match todo with
  | q :: _ => sprEmit (scbReq q) (.body todo) s
  | [] => startRender s

/-- The next read of an SCB's head; after the last, a skip sprite is left and any other loaded (R532,
R537). -/
def loadHead (todo : List (ScbDst × Addr)) (s : State) : State :=
  match todo with
  | q :: _ => sprEmit (scbReq q) (.head todo) s
  | [] => if s.chipA.sprctl1.getLsbD 2 then walk s else loadBody (scbBody s.spr.scbAddr s.chipA.sprctl1) s

/-- The depository byte (R536). -/
def depoByte (s : State) : Byte :=
  s.spr.depo.setWidth 8 ||| (if s.spr.everon && s.chipA.sprgo.getLsbD 2 then 0x80 else 0)

/-- Whether the sprite writes the depository (R536). -/
def writesDepo (s : State) : Bool := sprType s != 1 && sprType s != 5 && collisionOn s

/-- `spr_state <- WALK_SCB_LIST`, and the walk goes on (R532). -/
def walkAgain (s : State) : State := walk { s with spr := { s.spr with st := .walkScbList } }

/-- The end of a sprite (R532, R536). -/
def endSprite (s : State) : State :=
  if writesDepo s then
    sprEmit { kind := .writeByte, addr := s.spr.scbAddr + s.chipA.colloff, mask := 0xFF, data := depoByte s }
      .depo s
  else walkAgain s

/-- A line's offset byte `o` was read (R534, R537). -/
def lineOffset (o : Byte) (s : State) : State :=
  if o = 0 then endSprite s
  else if o = 1 then
    if s.spr.quadsDone + 1 < 4 then
      readOffset
        { s with
          spr :=
            { s.spr with
              quad := s.spr.quad + 1, quadsDone := s.spr.quadsDone + 1, line := 0
              linePtr := s.spr.linePtr + 1 } }
    else endSprite s
  else
    lineData (dataReads o.toNat (s.spr.linePtr + 1) (o.toNat - 1))
      { s with spr := { s.spr with linePtr := s.spr.linePtr + zext o, bytes := [] } }

/-! ## Start, service, finish (R102, R530, R531, R533) -/

/-- A run starts (R530): the engine computes its first request. -/
def startRun (s : State) : State := walkAgain { s with cpuRun := .stalled }

/-- What a masked read-modify-write leaves (R102, R535). -/
def rmwByte (kind : SprKind) (old mask data : Byte) : Byte :=
  if kind = .xorRmw then old ^^^ (data &&& mask) else (old &&& ~~~mask) ||| (data &&& mask)

/-- The collision numbers found under the mask, if `src` is `BUFFER` (R535, R536). -/
def depoFromBuffer (src : DepoSource) (old mask : Byte) (depo : Nibble) : Nibble :=
  if src = .buffer then maxNib (maxNib depo (hiNib (old &&& mask))) (loNib (old &&& mask)) else depo

/-- The arbiter services a request directly against RAM (R102); the bytes read, and the machine after
it. -/
def sprService (src : DepoSource) (r : SprReq) (s : State) : List Byte × State :=
  match r.kind with
  | .finish => ([], s)
  | .readByte => (ramReads s r.addr 1, s)
  | .read4Bytes => (ramReads s r.addr 4, s)
  | .writeByte => ([], ramWrite s r.addr r.data)
  | .collRmw =>
    let old := ramRead s r.addr
    ([], ramWrite { s with spr := { s.spr with depo := depoFromBuffer src old r.mask s.spr.depo } } r.addr
      (rmwByte .collRmw old r.mask r.data))
  | .videoRmw => ([], ramWrite s r.addr (rmwByte .videoRmw (ramRead s r.addr) r.mask r.data))
  | .xorRmw => ([], ramWrite s r.addr (rmwByte .xorRmw (ramRead s r.addr) r.mask r.data))

/-- FINISH (R533): the CPU runs again. -/
def finishRun (s : State) : State :=
  { s with
    spr := { s.spr with st := .finished, req := none, cont := .none }
    chipA := { s.chipA with sprgo := s.chipA.sprgo &&& 0xFE }
    cpuRun := .run
    seqNext := none }

/-- The kinds of request a continuation point can wait on (R531, R535). -/
def SprCont.awaits : SprCont → SprKind → Bool
  | .none, _ => false
  | .head (q :: _), k => k == (scbReq q).kind
  | .head [], _ => false
  | .body (q :: _), k => k == (scbReq q).kind
  | .body [], _ => false
  | .offset, k => k == .readByte
  | .data (q :: _), k => k == (dataReq q).kind
  | .data [], _ => false
  | .drawColl _, k => k == .collRmw
  | .drawVideo _ _, k => k == .writeByte || k == .videoRmw || k == .xorRmw
  | .flush _, k => k == .collRmw || k == .writeByte || k == .videoRmw || k == .xorRmw
  | .depo, k => k == .writeByte
  | .finish, k => k == .finish

/-- The engine resumes with the bytes read, and runs until its next request (R531). -/
def sprResume (bytes : List Byte) (s : State) : State :=
  match s.spr.cont with
  | .none => s
  | .head [] => s
  | .head ((d, _) :: todo) => loadHead todo (scbStore d bytes s)
  | .body [] => s
  | .body ((d, _) :: todo) => loadBody todo (scbStore d bytes s)
  | .offset => lineOffset (bytes.headD 0) s
  | .data todo =>
    lineData todo.tail { s with spr := { s.spr with bytes := s.spr.bytes ++ bytes } }
  | .drawColl ps => drawPixels ps s
  | .drawVideo p ps => drawPixels ps (addVideo p s)
  | .flush k => flushBoth k s
  | .depo => walkAgain s
  | .finish => finishRun s

/-- `sprite_step()` (R102): the engine's request is serviced, its cost charged, and the engine resumed
once. -/
def spriteStep (s : State) : Except Fault State :=
  match s.spr.req with
  | none => .error .noSpriteRequest
  | some r =>
    if s.spr.cont.awaits r.kind then
      let (bytes, s) := sprService Config.depoSource r s
      .ok (sprResume bytes { s with now := s.now + Config.sprCost r.kind })
    else .error .wrongSpriteRequest

end Sys2Proof.Machine
end

