-- ==== Sys2Proof/Machine/Scheduler.lean ====
section
/-! DEFINITION. Machine/Scheduler.lean: the event queue (20_memory.md R90 to R95). The multiset of R21
is a list in the order `(tick, tag)`, so that equal multisets are equal lists and the least action
stands first. -/

namespace Sys2Proof.Machine

/-- The tag of a kind: the lower tag fires first at equal tick (R90). -/
def Kind.tag : Kind → Nat
  | .dma => 0
  | .timer n => 1 + n.val
  | .irqUpdate => 13
  | .endFrame => 14

/-- The order `(tick, tag)`, tick first (R92). -/
def Action.le (x y : Action) : Bool :=
  decide (x.tick < y.tick) || (x.tick == y.tick && decide (x.kind.tag ≤ y.kind.tag))

/-- A queue with one more action, after those it does not precede; duplicates are kept (R91). -/
def insertAction (e : Action) : List Action → List Action
  | [] => [e]
  | x :: q => if x.le e then x :: insertAction e q else e :: x :: q

/-- The queue is in the order of R92. -/
def Queue.sorted : List Action → Bool
  | [] => true
  | [_] => true
  | x :: y :: q => x.le y && Queue.sorted (y :: q)

/-- The machine with action `e` in its queue. -/
def enqueue (e : Action) (s : State) : State := { s with queue := insertAction e s.queue }

/-- `push(t, k)` of a computation at tick `asked` (R91): a tick before `asked` is `Fatal(past_schedule)`. -/
def push (asked t : Nat) (k : Kind) (s : State) : Host.Outcome State Fault Refusal :=
  if t < asked then .fault .pastSchedule else .next (enqueue { tick := t, kind := k } s)

/-- The push of every handler and register write: `delay` ticks after the tick `t` of its computation,
so that R91's condition holds by construction (`push_pushAfter`). -/
def pushAfter (t delay : Nat) (k : Kind) (s : State) : State := enqueue { tick := t + delay, kind := k } s

/-- `peek_tick()` (R92). -/
def peekTick (s : State) : Option Nat :=
  match s.queue with
  | [] => none
  | e :: _ => some e.tick

/-- Whether an action is due (R93). -/
def due (s : State) : Bool :=
  match s.queue with
  | [] => false
  | e :: _ => decide (e.tick ≤ s.now)

/-- `pop()` (R92): the least action, and the machine without it. -/
def pop (s : State) : Option (Action × State) :=
  match s.queue with
  | [] => none
  | e :: q => some (e, { s with queue := q })

end Sys2Proof.Machine
end

