-- ==== Sys2Proof/Machine/Display.lean ====
section
/-! DEFINITION. Machine/Display.lean: the display generator and the palette (60_exceptions.md R510 to
R524; 10_state.md R39, R40). -/

namespace Sys2Proof.Machine

/-! ## Palette -/

/-- The palette register at chip B offset `reg`, as the writes stamped at or before `x` left it (R522).
`h` is the history, newest first; before the first write: assumption 4. -/
def palAt (h : List PalWrite) (x : Nat) (reg : Byte) : Byte :=
  match h with
  | [] => 0
  | w :: h => if w.reg = reg && decide (w.tick ≤ x) then w.value else palAt h x reg

/-- The byte last written to a palette register (R520). -/
def palRead (h : List PalWrite) (reg : Byte) : Byte :=
  match h with
  | [] => 0
  | w :: h => if w.reg = reg then w.value else palRead h reg

/-- The offset of GREENc (R520). -/
def greenReg (c : Nibble) : Byte := 0xA0#8 + c.setWidth 8

/-- The offset of BLUEREDc (R520). -/
def blueRedReg (c : Nibble) : Byte := 0xB0#8 + c.setWidth 8

/-- The colour of palette entry `c` in force at tick `x`: green, blue, red (R520 to R522). -/
def colourAt (h : List PalWrite) (x : Nat) (c : Nibble) : Colour :=
  loNib (palAt h x (greenReg c)) ++ hiNib (palAt h x (blueRedReg c)) ++ loNib (palAt h x (blueRedReg c))

/-! ## Pixels -/

/-- The emission tick `e(p)` of pixel `p` (R522). -/
def emission (d : Display) (p : Nat) : Nat :=
  (d.burstTick.toList.getD (p / 16) 0) + (p % 16) * Config.ticksPerPixel

/-- The 4-bit value of pixel `p`: the high nibble is the left, even, pixel (R522, R524). -/
def pixelValue (d : Display) (p : Nat) : Nibble :=
  let b := d.lineBytes.toList.getD (p / 2) 0
  if p % 2 = 0 then hiNib b else loNib b

/-- Whether the burst of pixel `p` was delivered (R522). -/
def delivered (d : Display) (p : Nat) : Bool := decide (p / 16 < d.burst)

/-- Whether the row was opened in the one mode the spec defines: colour, four-bit, not flipped (R517). -/
def definedMode (m : Byte) : Bool := m.getLsbD 3 && m.getLsbD 2 && !m.getLsbD 1

/-- The colour of pixel `p` when the row is finished at tick `t` (R522). A pixel without its burst, a
row in another mode (R517), and a frame in which the constraint of R513 was broken take a free value. -/
def pixelColour (s : State) (t : Nat) (p : Nat) : Colour :=
  if delivered s.display p && definedMode s.display.lineMode && !s.display.broken then
    colourAt s.palette (min (emission s.display p) t) (pixelValue s.display p)
  else Config.freeColour s.draws p

/-- A frame's rows with row `r` replaced. -/
def setRow (r : Nat) (cs : List Colour) : List (Nat × List Colour) → List (Nat × List Colour)
  | [] => [(r, cs)]
  | (q, ds) :: rest =>
    if r < q then (r, cs) :: (q, ds) :: rest
    else if r = q then (r, cs) :: rest
    else (q, ds) :: setRow r cs rest

/-- The pixel at row `r`, column `p`: a row that was never built is unspecified (R515). -/
def framePixel (f : Frame) (r p : Nat) : Colour :=
  match f.rows.lookup r with
  | some cs => cs.getD p 0
  | none => Config.freeColour f.draw (r * 160 + p)

/-- `finish_line(t)` for the open row `r` (R522). -/
def finishLine (t : Nat) (r : Byte) (s : State) : State :=
  { s with
    display :=
      { s.display with
        frame :=
          { s.display.frame with
            rows := setRow r.toNat ((List.range 160).map (pixelColour s t)) s.display.frame.rows } }
    draws := s.draws + 1 }

/-- `if row != NONE: finish_line(t)` (R512, R515). -/
def finishOpenLine (t : Nat) (s : State) : State :=
  match s.display.row with
  | none => s
  | some r => finishLine t r s

/-- The number of pixels of the open row emitted before tick `t`: what an eager flush at `t` has emitted
(R523). It is not visible to software. -/
def emittedBefore (d : Display) (t : Nat) : Nat :=
  ((List.range 160).takeWhile (fun p => delivered d p && decide (emission d p < t))).length

/-- A palette write of `v` at tick `t` (R520, R523). -/
def paletteWrite (t : Nat) (reg v : Byte) (s : State) : State :=
  { s with
    palette := { tick := t, reg := reg, value := v } :: s.palette
    display :=
      { s.display with
        flushed := match s.display.row with
          | none => 0
          | some _ => emittedBefore s.display t } }

/-! ## hblank, DMA bursts, vblank -/

/-- The constraint `dma_first_offset + 9 * dma_burst_interval < period` on an hblank period (R513). -/
def dmaFits (period : Nat) : Bool :=
  decide (Config.dmaFirstOffset + 9 * Config.dmaBurstInterval < period)

/-- If the constraint of R513 is broken, the frame is unspecified: every row is dropped, and those built
until vblank take free values. -/
def breakFrame (broken : Bool) (s : State) : State :=
  { s with
    display :=
      { s.display with
        broken := s.display.broken || broken
        frame := if broken then { rows := [], draw := s.draws } else s.display.frame }
    draws := if broken then s.draws + 1 else s.draws }

/-- The constraint of R513 for the hblank period that timer 0 is set to, if it is set to one. -/
def checkPeriod (period : Option Nat) (s : State) : State :=
  breakFrame (period.any fun p => !dmaFits p) s

/-- The constraint of R513 for the open row, at the hblank that ends it at tick `t`: the ten bursts are due
before `t`, and were drained. -/
def checkBursts (t : Nat) (s : State) : State :=
  breakFrame
    (s.display.row.isSome && (decide (s.display.burst < 10) || !dmaFits (t - s.display.lineTick))) s

/-- Open row `r` at tick `t` (R512, R513), or leave no row open. -/
def openRow (t : Nat) (r : Byte) (s : State) : State :=
  if s.display.dispctl.getLsbD 0 && decide (r.toNat < 102) then
    pushAfter t Config.dmaFirstOffset .dma
      { s with
        display :=
          { s.display with
            row := some r, burst := 0, lineTick := t, flushed := 0, lineMode := s.display.dispctl } }
  else { s with display := { s.display with row := none, flushed := 0 } }

/-- At row 0, whatever DMA enable is: `dma_addr <- dispadr & 0xFFFC` (R511, R512). -/
def latchDmaAddr (r : Byte) (s : State) : State :=
  if r = 0 then { s with display := { s.display with dmaAddr := s.display.dispadr &&& 0xFFFC } } else s

/-- `hblank(t, r)` (R512). -/
def hblank (t : Nat) (r : Byte) (s : State) : State :=
  openRow t r (latchDmaAddr r (finishOpenLine t (checkBursts t s)))

/-- `vblank(t)` (R515): the open row is finished and the frame handed to the video sink. -/
def vblank (t : Nat) (s : State) : State :=
  let s := finishOpenLine t s
  { s with
    display := { s.display with row := none, flushed := 0, broken := false }
    out := .frame t s.display.frame :: s.out }

/-- Eight bytes stored at index `i` of a line (R514). -/
def storeBytes (v : Vector Byte 80) (i : Nat) : List Byte → Vector Byte 80
  | [] => v
  | b :: bs => storeBytes (v.setIfInBounds i b) (i + 1) bs

/-- `push_data(t, b)` (R514). An eleventh burst of one row, which only a broken R513 brings, stores
nothing (assumption 13). -/
def pushData (t : Nat) (b : List Byte) (s : State) : State :=
  match s.display.row with
  | none => s
  | some _ =>
    let d := s.display
    if d.burst < 10 then
      let s := { s with display :=
        { d with
          lineBytes := storeBytes d.lineBytes (8 * d.burst) b
          burstTick := d.burstTick.setIfInBounds d.burst t
          burst := d.burst + 1
          dmaAddr := d.dmaAddr + 8 } }
      if d.burst + 1 < 10 then pushAfter t Config.dmaBurstInterval .dma s else s
    else { s with display := { d with dmaAddr := d.dmaAddr + 8 } }

/-- The DMA handler (R96): eight bytes of RAM directly, not through `decode`. -/
def dmaBurst (t : Nat) (s : State) : State :=
  let b := ramReads s s.display.dmaAddr 8
  pushData t b { s with now := s.now + Config.dmaBurstCost, seqNext := none }

end Sys2Proof.Machine
end

