-- ==== Sys2Proof/Machine/Interrupts.lean ====
section
/-! DEFINITION. Machine/Interrupts.lean: the interrupt status registers and the IRQ line
(60_exceptions.md R500 to R503; 20_memory.md R96 IRQ_UPDATE). -/

namespace Sys2Proof.Machine

/-- `int_pending <- v`, and if that is a change, `push(t, IRQ_UPDATE)` (R489, R500 to R502). -/
def setPending (t : Nat) (v : Byte) (s : State) : State :=
  if v = s.intPending then s else pushAfter t 0 .irqUpdate { s with intPending := v }

/-- A write of INTRST clears the bits written 1 (R500). -/
def intrstWrite (t : Nat) (v : Byte) (s : State) : State := setPending t (s.intPending &&& (v ^^^ 0xFF)) s

/-- A write of INTSET sets the bits written 1 (R501). -/
def intsetWrite (t : Nat) (v : Byte) (s : State) : State := setPending t (s.intPending ||| v) s

/-- The IRQ line (R502). -/
def irqLine (s : State) : Bool := s.intPending != 0

/-- The IRQ_UPDATE handler (R96, R541): the level goes into the mask, and an asserted IRQ wakes the
CPU. -/
def irqUpdate (s : State) : State :=
  { s with
    irqMask := { s.irqMask with irq := irqLine s }
    cpuRun := if irqLine s && s.cpuRun == .sleep then .run else s.cpuRun }

end Sys2Proof.Machine
end

