-- ==== Sys2Proof/Machine/Timers.lean ====
section
/-! DEFINITION. Machine/Timers.lean: the timer chain (60_exceptions.md R480 to R492). -/

namespace Sys2Proof.Machine

/-- `unit(T) = 16 << T.clk`, for `clk` in 0..6 (§4 of 60_exceptions.md). -/
def Timer.unit (T : Timer) : Nat := 16 <<< T.clk.toNat

/-- `cur(T, t)` of a scheduled timer (R480). -/
def Timer.cur (T : Timer) (t : Nat) : Byte := T.count - BitVec.ofNat 8 ((t - T.base) / T.unit)

/-- The count a read gives at `t` (R486): the current count of a scheduled timer, and the frozen count
of any other. -/
def Timer.countAt (T : Timer) (t : Nat) : Byte :=
  match T.predicted with
  | some _ => T.cur t
  | none => T.count

/-- The sync before a register write: `if T.predicted != NONE: T.count <- cur(T, t)` (R481). -/
def Timer.sync (T : Timer) (t : Nat) : Timer := { T with count := T.countAt t }

/-- Whether the schedule computation schedules a fire (R481). -/
def Timer.runs (T : Timer) : Bool :=
  T.enCount && T.clk != 7 && T.backup != 0 && !(T.done && !T.enReload)

/-- Ticks from a schedule computation to the fire (R481). -/
def Timer.delay (T : Timer) : Nat := (T.count.toNat + 1) * T.unit

/-- One of the source's three states: not counting (R36). -/
def Timer.idle (T : Timer) : Bool :=
  !T.enCount || (T.done && !T.enReload) || (T.clk != 7 && T.backup == 0)

/-- One of the source's three states: the done latch is set; it overlaps the other two (R36). -/
def Timer.doneLatched (T : Timer) : Bool := T.done

/-- One of the source's three states: every case that is not idle. A reloading timer that fired and goes
on counting is counting down and done-latched (R36). -/
def Timer.countingDown (T : Timer) : Bool := !T.idle

/-- Timer `n` of the machine. -/
def timer (s : State) (n : Fin 12) : Timer := s.timers[n]

/-- The machine with timer `n` replaced. -/
def setTimer (n : Fin 12) (T : Timer) (s : State) : State := { s with timers := s.timers.set n T }

/-- `schedule(T, t)` for timer `n` with fields `T` (R481). -/
def schedule (n : Fin 12) (T : Timer) (t : Nat) (s : State) : State :=
  if T.runs then
    pushAfter t T.delay (.timer n) (setTimer n { T with base := t, predicted := some (t + T.delay) } s)
  else setTimer n { T with base := t, predicted := none } s

/-! ## Register writes (R484 to R487) -/

/-- Backup write (R484). `loads` is the parameter `BACKUP_LOADS_COUNT`. -/
def backupWrite (loads : Bool) (n : Fin 12) (v : Byte) (t : Nat) (s : State) : State :=
  let T := (timer s n).sync t
  schedule n { T with backup := v, count := if loads then v else T.count } t s

/-- The fields a control A write sets, after the sync (R485). -/
def ctlaFields (n : Fin 12) (v : Byte) (T : Timer) : Timer :=
  { T with
    enInt := if n.val < 8 then v.getLsbD 7 else false
    extra :=
      if n.val < 8 then T.extra.extractLsb' 1 1 ++ BitVec.ofBool (v.getLsbD 5)
      else BitVec.ofBool (v.getLsbD 7) ++ BitVec.ofBool (v.getLsbD 5)
    done := if v.getLsbD 6 then false else T.done
    enReload := v.getLsbD 4
    enCount := v.getLsbD 3
    clk := v.extractLsb' 0 3 }

/-- Control A write (R485). -/
def ctlaWrite (n : Fin 12) (v : Byte) (t : Nat) (s : State) : State :=
  schedule n (ctlaFields n v ((timer s n).sync t)) t s

/-- Control A read (R485): bit 6 is 0. -/
def ctlaRead (n : Fin 12) (T : Timer) : Byte :=
  BitVec.ofBool (if n.val < 8 then T.enInt else T.extra.getLsbD 1) ++ 0#1 ++
    BitVec.ofBool (T.extra.getLsbD 0) ++ BitVec.ofBool T.enReload ++ BitVec.ofBool T.enCount ++ T.clk

/-- Count write (R486). -/
def countWrite (n : Fin 12) (v : Byte) (t : Nat) (s : State) : State :=
  schedule n { timer s n with count := v } t s

/-- Control B write (R487): bits 3..0. -/
def ctlbWrite (n : Fin 12) (v : Byte) (t : Nat) (s : State) : State :=
  schedule n
    { (timer s n).sync t with
      done := v.getLsbD 3, lastClock := v.getLsbD 2, borrowIn := v.getLsbD 1, borrowOut := v.getLsbD 0 }
    t s

/-- Control B read (R487): `done` in bit 3, an unspecified value in bits 2..0, and `high` above. -/
def ctlbRead (T : Timer) (high : Nibble) (free : Byte) : Byte :=
  high ++ BitVec.ofBool T.done ++ free.extractLsb' 0 3

/-! ## Fires (R482, R483, R488, R489) -/

/-- `downstream(n)` (R488). -/
def downstream (n : Fin 12) : Option (Fin 12) :=
  match n with
  | 0 => some 2
  | 1 => some 3
  | 2 => some 4
  | 3 => some 5
  | 4 => none
  | 5 => some 7
  | 6 => none
  | 7 => some 8
  | 8 => some 9
  | 9 => some 10
  | 10 => some 11
  | 11 => some 1

/-- The timers downstream of `n` in order, up to the end of the chain or the return to `start`: a
scheduled timer is not linked, so a borrow never passes it (R488). -/
def chainFrom (start : Fin 12) : Nat → Fin 12 → List (Fin 12)
  | 0, _ => []
  | k + 1, n =>
    match downstream n with
    | none => []
    | some d => if d = start then [] else d :: chainFrom start k d

/-- `row = T[2].backup - T[2].count` (R489, R516). -/
def rasterRow (s : State) : Byte := (timer s 2).backup - (timer s 2).count

/-- Step 1 of `trigger`: a system timer with its interrupt enabled sets its pending bit (R489). -/
def triggerInt (n : Fin 12) (t : Nat) (s : State) : State :=
  if n.val < 8 && (timer s n).enInt then setPending t (s.intPending ||| (1#8 <<< n.val)) s else s

/-- The hblank period in use: what timer 0 takes from one fire to the next while it reloads and counts
(R482, R513). -/
def hblankPeriod (s : State) : Option Nat :=
  let T := timer s 0
  if T.enReload && T.runs then some ((T.backup.toNat + 1) * T.unit) else none

/-- The device timer `n` drives (R489): hblank, vblank, the serial clock, or an audio clock. The period
in use is checked at both display calls (R513). -/
def triggerDevice (n : Fin 12) (t : Nat) (s : State) : State :=
  match n with
  | 0 => hblank t (rasterRow s) (checkPeriod (hblankPeriod s) s)
  | 2 => vblank t (checkPeriod (hblankPeriod s) s)
  | 4 => { s with out := .serialClock t :: s.out }
  | 8 => { s with out := .audioClock 0 t :: s.out }
  | 9 => { s with out := .audioClock 1 t :: s.out }
  | 10 => { s with out := .audioClock 2 t :: s.out }
  | 11 => { s with out := .audioClock 3 t :: s.out }
  | 1 => s
  | 3 => s
  | 5 => s
  | 6 => s
  | 7 => s

/-- `trigger(n, t)` (R489). -/
def trigger (n : Fin 12) (t : Nat) (s : State) : State := triggerDevice n t (triggerInt n t s)

/-- What a fire does to the timer before its trigger (R482). -/
def Timer.fired (T : Timer) (t : Nat) : Timer :=
  { T with
    predicted := none, lastFire := some t, done := true, borrowOut := true
    count := if T.enReload then T.backup else 0 }

/-- The part of `timer_fire` up to and with the trigger (R482). -/
def fireHead (n : Fin 12) (t : Nat) (s : State) : State :=
  trigger n t (setTimer n ((timer s n).fired t) s)

/-- The end of `timer_fire`: the re-arm (R482). -/
def fireTail (n : Fin 12) (t : Nat) (s : State) : State :=
  if (timer s n).enReload then schedule n (timer s n) t s else s

/-- Whether `borrow_in` acts on a timer (R483). -/
def Timer.takesBorrow (T : Timer) : Bool := T.enCount && !(T.done && !T.enReload)

/-- A borrow sent down the chain `ds` (R482, R483): the first timer takes it if it is linked, and if it
underflows it fires and sends a borrow to the rest. -/
def borrowChain (t : Nat) : List (Fin 12) → State → State
  | [], s => s
  | d :: ds, s =>
    if (timer s d).clk == 7 && (timer s d).takesBorrow then
      let s := setTimer d { timer s d with borrowIn := true } s
      if (timer s d).count != 0 then
        setTimer d { timer s d with count := (timer s d).count - 1 } s
      else fireTail d t (borrowChain t ds (fireHead d t s))
    else s

/-- `timer_fire(T[n], t)` (R482). -/
def timerFire (n : Fin 12) (t : Nat) (s : State) : State :=
  fireTail n t (borrowChain t (chainFrom n 12 n) (fireHead n t s))

/-- The TIMER(n) handler (R96): a stale fire is ignored (R490). -/
def timerEvent (n : Fin 12) (t : Nat) (s : State) : State :=
  if (timer s n).predicted = some t then timerFire n t s else s

end Sys2Proof.Machine
end

