-- ==== Sys2Proof/Machine/Chips.lean ====
section
/-! DEFINITION. Machine/Chips.lean: the register maps of the two companion chips (10_state.md R37, R42;
60_exceptions.md R484 to R487, R500, R501, R510, R511, R520, R530, R540, R545, R546; open bus and
write-only registers: 20_memory.md R84). `t` is the tick of the access (R103). -/

namespace Sys2Proof.Machine

/-- What an unmapped or write-only register reads as (R84). -/
def openBus : Byte := 0xFF

/-- The low byte of a 16-bit register is set (R42, R88). -/
def setLo (r : Addr) (v : Byte) : Addr := pair (hiByte r) v

/-- The high byte of a 16-bit register is set (R42, R88). -/
def setHi (r : Addr) (v : Byte) : Addr := pair v (loByte r)

/-! ## Chip B -/

/-- The chip B registers (R37). -/
inductive RegB where
  | backup (n : Fin 12)
  | ctla (n : Fin 12)
  | count (n : Fin 12)
  | ctlb (n : Fin 12)
  /-- Read back as written: audio, attenuation, panning and stereo (R545). -/
  | storage
  | intrst
  | intset
  /-- 0xFD84..0xFD8D (R546). -/
  | serial
  | sdoneack
  | cpusleep
  | dispctl
  | dispadrl
  | dispadrh
  /-- Write-only storage without effect: PBKUP and MTEST0..2 (R546). -/
  | writeOnly
  | palette
  | openBus
deriving DecidableEq, Repr

/-- The audio channel of an offset in 0x20..0x3F has the timer `8 + k` (R35, R37). -/
def audioTimer (o : Nat) : Fin 12 := Fin.ofNat 12 (8 + (o - 0x20) / 8)

/-- The register at a chip B offset (R37). -/
def regB (o : Byte) : RegB :=
  let k := o.toNat
  if k < 0x20 then
    match k % 4 with
    | 0 => .backup (Fin.ofNat 12 (k / 4))
    | 1 => .ctla (Fin.ofNat 12 (k / 4))
    | 2 => .count (Fin.ofNat 12 (k / 4))
    | _ => .ctlb (Fin.ofNat 12 (k / 4))
  else if k < 0x40 then
    match k % 8 with
    | 4 => .backup (audioTimer k)
    | 5 => .ctla (audioTimer k)
    | 6 => .count (audioTimer k)
    | 7 => .ctlb (audioTimer k)
    | _ => .storage
  else if k ≤ 0x44 || k = 0x50 then .storage
  else if k = 0x80 then .intrst
  else if k = 0x81 then .intset
  else if 0x84 ≤ k && k ≤ 0x8D then .serial
  else if k = 0x90 then .sdoneack
  else if k = 0x91 then .cpusleep
  else if k = 0x92 then .dispctl
  else if k = 0x93 then .writeOnly
  else if k = 0x94 then .dispadrl
  else if k = 0x95 then .dispadrh
  else if 0x9C ≤ k && k ≤ 0x9E then .writeOnly
  else if 0xA0 ≤ k && k ≤ 0xBF then .palette
  else .openBus

/-- The stored byte of a chip B offset (R545, R546). -/
def storedB (s : State) (o : Byte) : Byte := memRead s.chipB o.toNat

/-- A chip B offset stores a byte (R545, R546). -/
def storeB (o v : Byte) (s : State) : State := { s with chipB := memWrite s.chipB o.toNat v }

/-- One more free value has been read. -/
def nextDraw (s : State) : State := { s with draws := s.draws + 1 }

/-- The stored high nibble of AUDkMISC; bits 7..4 of TIMnCTLB read 0 (R37, R487). -/
def ctlbHigh (s : State) (n : Fin 12) (o : Byte) : Nibble := if n.val < 8 then 0 else hiNib (storedB s o)

/-- A read of the chip B register at offset `o` (R37). -/
def chipBRead (o : Byte) (t : Nat) (s : State) : Byte × State :=
  match regB o with
  | .backup n => ((timer s n).backup, s)
  | .ctla n => (ctlaRead n (timer s n), s)
  | .count n => ((timer s n).countAt t, s)
  | .ctlb n => (ctlbRead (timer s n) (ctlbHigh s n o) (Config.freeByte s.draws), nextDraw s)
  | .storage => (storedB s o, s)
  | .intrst => (s.intPending, s)
  | .intset => (s.intPending, s)
  | .serial => (Config.serialByte s.draws o, nextDraw s)
  | .sdoneack => (openBus, s)
  | .cpusleep => (openBus, s)
  | .dispctl => (openBus, s)
  | .dispadrl => (openBus, s)
  | .dispadrh => (openBus, s)
  | .writeOnly => (openBus, s)
  | .palette => (palRead s.palette o, s)
  | .openBus => (openBus, s)

/-- A write of CPUSLEEP: it starts a sprite run (R530), or puts the CPU to sleep unless an interrupt is
pending (R540). -/
def cpusleepWrite (s : State) : State :=
  if s.chipA.sprgo.getLsbD 0 && s.chipA.suzybusen.getLsbD 0 then startRun s
  else if s.intPending != 0 then s
  else { s with cpuRun := .sleep }

/-- The stored high nibble of AUDkMISC is set (R37). -/
def storeHigh (n : Fin 12) (o v : Byte) (s : State) : State :=
  if n.val < 8 then s else storeB o (v &&& 0xF0) s

/-- A write of `v` to the chip B register at offset `o` (R37). -/
def chipBWrite (o v : Byte) (t : Nat) (s : State) : State :=
  match regB o with
  | .backup n => backupWrite Config.backupLoadsCount n v t s
  | .ctla n => ctlaWrite n v t s
  | .count n => countWrite n v t s
  | .ctlb n => ctlbWrite n v t (storeHigh n o v s)
  | .storage => storeB o v s
  | .intrst => intrstWrite t v s
  | .intset => intsetWrite t v s
  | .serial => { s with out := .serialWrite o v t :: s.out }
  | .sdoneack => s
  | .cpusleep => cpusleepWrite s
  | .dispctl => { s with display := { s.display with dispctl := v } }
  | .dispadrl => { s with display := { s.display with dispadr := setLo s.display.dispadr v } }
  | .dispadrh => { s with display := { s.display with dispadr := setHi s.display.dispadr v } }
  | .writeOnly => storeB o v s
  | .palette => paletteWrite t o v s
  | .openBus => s

/-! ## Chip A -/

/-- The 16-bit chip A registers (R42). -/
inductive WordA where
  | hoff
  | voff
  | vidbas
  | collbas
  | scbnext
  | sprdline
  | hposstrt
  | vposstrt
  | sprhsiz
  | sprvsiz
  | stretch
  | tilt
  | colloff
  | scbadr
deriving DecidableEq, Repr

/-- The chip A registers (R42). -/
inductive RegA where
  | low (w : WordA)
  | high (w : WordA)
  | sprctl0
  | sprctl1
  | sprcoll
  | suzybusen
  | sprgo
  | sprsys
  /-- Every offset that R42 does not name (R546). -/
  | other
deriving DecidableEq, Repr

/-- The 16-bit register at an even chip A offset (R42). -/
def wordA (k : Nat) : Option WordA :=
  match k with
  | 0x04 => some .hoff
  | 0x06 => some .voff
  | 0x08 => some .vidbas
  | 0x0A => some .collbas
  | 0x10 => some .scbnext
  | 0x12 => some .sprdline
  | 0x14 => some .hposstrt
  | 0x16 => some .vposstrt
  | 0x18 => some .sprhsiz
  | 0x1A => some .sprvsiz
  | 0x1C => some .stretch
  | 0x1E => some .tilt
  | 0x24 => some .colloff
  | 0x2C => some .scbadr
  | _ => none

/-- The register at a chip A offset (R42). -/
def regA (o : Byte) : RegA :=
  let k := o.toNat
  match wordA (k - k % 2) with
  | some w => if k % 2 = 0 then .low w else .high w
  | none =>
    if k = 0x80 then .sprctl0
    else if k = 0x81 then .sprctl1
    else if k = 0x82 then .sprcoll
    else if k = 0x90 then .suzybusen
    else if k = 0x91 then .sprgo
    else if k = 0x92 then .sprsys
    else .other

/-- The value of a 16-bit chip A register; SCBADR is the current `scb_addr` (R42, R546). -/
def getWordA (s : State) (w : WordA) : Addr :=
  match w with
  | .hoff => s.chipA.hoff
  | .voff => s.chipA.voff
  | .vidbas => s.chipA.vidbas
  | .collbas => s.chipA.collbas
  | .scbnext => s.chipA.scbnext
  | .sprdline => s.chipA.sprdline
  | .hposstrt => s.chipA.hposstrt
  | .vposstrt => s.chipA.vposstrt
  | .sprhsiz => s.chipA.sprhsiz
  | .sprvsiz => s.chipA.sprvsiz
  | .stretch => s.chipA.stretch
  | .tilt => s.chipA.tilt
  | .colloff => s.chipA.colloff
  | .scbadr => s.spr.scbAddr

/-- A 16-bit chip A register is set; SCBADR is read-only, and a write of it has no effect
(assumption 17). -/
def setWordA (w : WordA) (v : Addr) (c : ChipA) : ChipA :=
  match w with
  | .hoff => { c with hoff := v }
  | .voff => { c with voff := v }
  | .vidbas => { c with vidbas := v }
  | .collbas => { c with collbas := v }
  | .scbnext => { c with scbnext := v }
  | .sprdline => { c with sprdline := v }
  | .hposstrt => { c with hposstrt := v }
  | .vposstrt => { c with vposstrt := v }
  | .sprhsiz => { c with sprhsiz := v }
  | .sprvsiz => { c with sprvsiz := v }
  | .stretch => { c with stretch := v }
  | .tilt => { c with tilt := v }
  | .colloff => { c with colloff := v }
  | .scbadr => c

/-- A read of the chip A register at offset `o` (R42, R546). SPRSYS reads 0 in bit 0 and collaborator
bits elsewhere. -/
def chipARead (o : Byte) (s : State) : Byte × State :=
  match regA o with
  | .low w => (loByte (getWordA s w), s)
  | .high w => (hiByte (getWordA s w), s)
  | .sprctl0 => (openBus, s)
  | .sprctl1 => (openBus, s)
  | .sprcoll => (openBus, s)
  | .suzybusen => (openBus, s)
  | .sprgo => (openBus, s)
  | .sprsys => (Config.inputByte s.draws o &&& 0xFE, nextDraw s)
  | .other => (Config.inputByte s.draws o, nextDraw s)

/-- A write of `v` to the chip A register at offset `o` (R42, R546). -/
def chipAWrite (o v : Byte) (s : State) : State :=
  match regA o with
  | .low w => { s with chipA := setWordA w (setLo (getWordA s w) v) s.chipA }
  | .high w => { s with chipA := setWordA w (setHi (getWordA s w) v) s.chipA }
  | .sprctl0 => { s with chipA := { s.chipA with sprctl0 := v } }
  | .sprctl1 => { s with chipA := { s.chipA with sprctl1 := v } }
  | .sprcoll => { s with chipA := { s.chipA with sprcoll := v } }
  | .suzybusen => { s with chipA := { s.chipA with suzybusen := v } }
  | .sprgo => { s with chipA := { s.chipA with sprgo := v } }
  | .sprsys => { s with chipA := { s.chipA with sprsys := v } }
  | .other => { s with chipA := { s.chipA with other := memWrite s.chipA.other o.toNat v } }

end Sys2Proof.Machine
end

