-- ==== Sys2Proof/Machine/Bus.lean ====
section
/-! DEFINITION. Machine/Bus.lean: address decoding, the access of a CPU request, its cost and the
sequential predictor (20_memory.md R81 to R86, R103, R110, R111). -/

namespace Sys2Proof.Machine

/-- The region that answers a CPU access (R81). -/
inductive Region where
  | ram
  | rom (i : Nat)
  | chipA (o : Byte)
  | chipB (o : Byte)
  | mapctl
deriving DecidableEq, Repr

/-- `decode(a, mapctl)` (R81). -/
def regionOf (a : Addr) (m : Byte) : Region :=
  if a = 0xFFF9#16 then .mapctl
  else if a = 0xFFF8#16 then .ram
  else if 0xFFFA#16 ≤ a then (if m.getLsbD 3 then .ram else .rom (a.toNat - 0xFE00))
  else if 0xFE00#16 ≤ a then (if m.getLsbD 2 then .ram else .rom (a.toNat - 0xFE00))
  else if hiByte a = 0xFD#8 then (if m.getLsbD 1 then .ram else .chipB (loByte a))
  else if hiByte a = 0xFC#8 then (if m.getLsbD 0 then .ram else .chipA (loByte a))
  else .ram

/-- Whether a region is RAM or ROM, which the predictor and the two costs are for (R110, R111). -/
def Region.isMemory : Region → Bool
  | .ram => true
  | .rom _ => true
  | .chipA _ => false
  | .chipB _ => false
  | .mapctl => false

/-- A read of address `a` at tick `now` (R86). -/
def busRead (a : Addr) (s : State) : Byte × State :=
  match regionOf a s.mapctl with
  | .ram => (ramRead s a, s)
  | .rom i => (romRead s i, s)
  | .chipA o => chipARead o s
  | .chipB o => chipBRead o s.now s
  | .mapctl => (s.mapctl, s)

/-- A write of `v` at address `a` at tick `now` (R85, R86): a write to ROM reaches the RAM beneath. -/
def busWrite (a : Addr) (v : Byte) (s : State) : State :=
  match regionOf a s.mapctl with
  | .ram => ramWrite s a v
  | .rom _ => ramWrite s a v
  | .chipA o => chipAWrite o v s
  | .chipB o => chipBWrite o v s.now s
  | .mapctl => { s with mapctl := v }

/-- `cost(req, region)` (R110). -/
def cost (r : Request) (s : State) : Nat :=
  match regionOf r.addr s.mapctl with
  | .chipA _ => Config.chipCost .a r.kind r.addr
  | .chipB _ => Config.chipCost .b r.kind r.addr
  | .mapctl => Config.slowCost
  | .ram => memoryCost r s
  | .rom _ => memoryCost r s
where
  /-- The last two lines of R110: a write is slow, and so is a read that is not sequential. -/
  memoryCost (r : Request) (s : State) : Nat :=
    if r.kind = .write then Config.slowCost
    else if !s.mapctl.getLsbD 7 && s.seqNext == some r.addr then Config.fastCost
    else Config.slowCost

/-- The predictor after a CPU request (R111). -/
def predict (r : Request) (m : Byte) : Option Addr :=
  if (regionOf r.addr m).isMemory && r.kind != .write then some (r.addr + 1) else none

/-- The access of a request (R103 step 3): the byte read, 0 for a write. -/
def access (r : Request) (s : State) : Byte × State :=
  if r.kind = .write then (0, busWrite r.addr r.value s) else busRead r.addr s

/-- Steps 1 to 5 of `cpu_step()` (R103): classify, cost, perform at `now`, update the predictor,
advance. -/
def serve (r : Request) (s : State) : Byte × State :=
  let q := access r s
  (q.1, { q.2 with seqNext := predict r s.mapctl, now := q.2.now + cost r s })

end Sys2Proof.Machine
end

