-- ==== Sys2Proof/Machine/Flags.lean ====
section
/-! DEFINITION. Machine/Flags.lean: P as a byte (10_state.md R26) and every flag computation and ALU
result (42_alu.md R301 to R304, R310, R314; 43_shift_rmw.md R351 to R356). Sums are taken exactly in
`Nat` or `Int` and narrowed at the end. -/

namespace Sys2Proof.Machine

/-- `P` as a byte with B value `b`: `N:V:1:b:D:I:Z:C` (R26, R466). -/
def Flags.toByte (p : Flags) (b : Bool) : Byte :=
  BitVec.ofBool p.n ++ BitVec.ofBool p.v ++ 1#1 ++ BitVec.ofBool b ++ BitVec.ofBool p.d ++
    BitVec.ofBool p.i ++ BitVec.ofBool p.z ++ BitVec.ofBool p.c

/-- The six flags loaded from bits 7, 6, 3, 2, 1 and 0 of a byte (R26, R279, R394). -/
def Flags.ofByte (v : Byte) : Flags :=
  { n := v.getLsbD 7, v := v.getLsbD 6, d := v.getLsbD 3, i := v.getLsbD 2, z := v.getLsbD 1
    c := v.getLsbD 0 }

/-- `setNZ(v)` (R12). -/
def setNZ (p : Flags) (v : Byte) : Flags := { p with n := v.getLsbD 7, z := v == 0 }

/-- What an addition or subtraction gives (R301 to R304). -/
structure AluResult where
  value : Byte
  c : Bool
  v : Bool
deriving DecidableEq, Repr

/-- Binary addition `add_bin(a, b, c)` (R301). -/
def addBin (a b : Byte) (c : Bool) : AluResult :=
  let r := a.toNat + b.toNat + c.toNat
  let value := BitVec.ofNat 8 r
  { value, c := decide (r > 0xFF), v := (~~~(a ^^^ b) &&& (a ^^^ value) &&& 0x80) != 0 }

/-- Decimal addition `add_dec(a, b, c)` (R302). -/
def addDec (a b : Byte) (c : Bool) : AluResult :=
  let al₀ := a.toNat % 16 + b.toNat % 16 + c.toNat
  let al := if al₀ ≥ 0x0A then (al₀ + 0x06) % 16 + 0x10 else al₀
  let s₀ := (a &&& 0xF0).toNat + (b &&& 0xF0).toNat + al
  let t : Int := (a &&& 0xF0).toInt + (b &&& 0xF0).toInt + al
  let s := if s₀ ≥ 0xA0 then s₀ + 0x60 else s₀
  { value := BitVec.ofNat 8 s, c := decide (s ≥ 0x100), v := decide (t < -128 ∨ t > 127) }

/-- Binary subtraction `sub_bin(a, b, c)` (R303). -/
def subBin (a b : Byte) (c : Bool) : AluResult := addBin a (b ^^^ 0xFF) c

/-- Decimal subtraction `sub_dec(a, b, c)` (R304): C and V as in binary. -/
def subDec (a b : Byte) (c : Bool) : AluResult :=
  let bin := subBin a b c
  let al : Int := (a.toNat % 16 : Nat) - (b.toNat % 16 : Nat) + (c.toNat : Nat) - 1
  let s₀ : Int := (a.toNat : Nat) - (b.toNat : Nat) + (c.toNat : Nat) - 1
  let s₁ := if s₀ < 0 then s₀ - 0x60 else s₀
  let s₂ := if al < 0 then s₁ - 0x06 else s₁
  { value := BitVec.ofInt 8 s₂, c := bin.c, v := bin.v }

/-- The addition ADC performs (R305). -/
def adcResult (p : Flags) (a v : Byte) : AluResult := if p.d then addDec a v p.c else addBin a v p.c

/-- The subtraction SBC performs (R306). -/
def sbcResult (p : Flags) (a v : Byte) : AluResult := if p.d then subDec a v p.c else subBin a v p.c

/-- The flags of an addition or subtraction: N and Z from the result (R301 to R304). -/
def aluFlags (p : Flags) (r : AluResult) : Flags := { setNZ p r.value with c := r.c, v := r.v }

/-- The compare law `cmp(r, v)` (R310). -/
def cmpFlags (p : Flags) (r v : Byte) : Flags := { setNZ p (r - v) with c := decide (v ≤ r) }

/-- BIT in every mode but immediate (R314). -/
def bitFlags (p : Flags) (a v : Byte) : Flags :=
  { p with z := (a &&& v) == 0, n := v.getLsbD 7, v := v.getLsbD 6 }

/-- `P.Z <- ((A & v) == 0)`: BIT immediate, TSB and TRB (R314, R355, R356). -/
def testFlags (p : Flags) (a v : Byte) : Flags := { p with z := (a &&& v) == 0 }

/-- The value `f(v)` of a read-modify-write (R315, R316, R351 to R356). -/
def rmwValue (op : Rmw) (p : Flags) (a v : Byte) : Byte :=
  match op with
  | .asl => v <<< 1
  | .lsr => v >>> 1
  | .rol => v <<< 1 ||| bitByte p.c
  | .ror => bitByte p.c <<< 7 ||| v >>> 1
  | .inc => v + 1
  | .dec => v - 1
  | .tsb => v ||| a
  | .trb => v &&& (a ^^^ 0xFF)

/-- The flags of a read-modify-write (R315, R316, R351 to R356). -/
def rmwFlags (op : Rmw) (p : Flags) (a v : Byte) : Flags :=
  let r := rmwValue op p a v
  match op with
  | .asl => { setNZ p r with c := v.getLsbD 7 }
  | .lsr => { setNZ p r with c := v.getLsbD 0 }
  | .rol => { setNZ p r with c := v.getLsbD 7 }
  | .ror => { setNZ p r with c := v.getLsbD 0 }
  | .inc => setNZ p r
  | .dec => setNZ p r
  | .tsb => testFlags p a v
  | .trb => testFlags p a v

/-- The flag instructions (R421 to R427). -/
def setFlag (p : Flags) (f : FlagName) (b : Bool) : Flags :=
  match f with
  | .c => { p with c := b }
  | .i => { p with i := b }
  | .d => { p with d := b }
  | .v => { p with v := b }

end Sys2Proof.Machine
end

