-- ==== Sys2Proof/Machine/Ops.lean ====
section
/-! DEFINITION. Machine/Ops.lean: the CPU's bus sequences (40_cpu_machine.md R200 to R217), whose turn
it is (20_memory.md R100), and the exception entries and returns (60_exceptions.md R458, R461, R464;
44_control.md R394, R395). -/

namespace Sys2Proof.Machine

/-! ## Whose turn it is (R100) -/

/-- The cases of the arbiter step (R100). -/
inductive Turn where
  | event
  | sprite
  | cpu
  | idle
  | stuck
deriving DecidableEq, Repr

/-- The first case of R100 whose condition holds. -/
def turn (s : State) : Turn :=
  if due s then .event
  else if spriteActive s then .sprite
  else if s.cpuRun = .run then .cpu
  else if (peekTick s).isSome then .idle
  else .stuck

/-! ## Registers -/

/-- A general-purpose register (R23). -/
def Regs.get (r : Regs) : Reg → Byte
  | .a => r.a
  | .x => r.x
  | .y => r.y

/-- A general-purpose register is written (R23). -/
def Regs.set (r : Regs) (n : Reg) (v : Byte) : Regs :=
  match n with
  | .a => { r with a := v }
  | .x => { r with x := v }
  | .y => { r with y := v }

/-- `r <- v; setNZ(r)` (R12). -/
def Regs.load (r : Regs) (n : Reg) (v : Byte) : Regs := { r.set n v with p := setNZ r.p v }

/-- What an instruction does to the registers and flags once its locals `l` are read: the pseudocode of
the rule each `Act` names. -/
def Act.apply (e : Act) (l : Locals) (r : Regs) : Regs :=
  match e with
  | .load n => r.load n l.val
  | .adc => let q := adcResult r.p r.a l.val; { r with a := q.value, p := aluFlags r.p q }
  | .sbc => let q := sbcResult r.p r.a l.val; { r with a := q.value, p := aluFlags r.p q }
  | .and => r.load .a (r.a &&& l.val)
  | .ora => r.load .a (r.a ||| l.val)
  | .eor => r.load .a (r.a ^^^ l.val)
  | .cmp n => { r with p := cmpFlags r.p (r.get n) l.val }
  | .bit => { r with p := bitFlags r.p r.a l.val }
  | .bitImm => { r with p := testFlags r.p r.a l.val }
  | .incReg n => r.load n (r.get n + 1)
  | .decReg n => r.load n (r.get n - 1)
  | .move src dst => r.load dst (r.get src)
  | .tsx => r.load .x r.s
  | .txs => { r with s := r.x }
  | .flag f b => { r with p := setFlag r.p f b }
  | .rmwA op => { r with a := rmwValue op r.p r.a r.a, p := rmwFlags op r.p r.a r.a }
  | .rmwSetFlags op => { r with p := rmwFlags op r.p r.a l.val }
  | .pullFlags => { r with p := Flags.ofByte l.val }
  | .mask => { r with p := { r.p with i := true, d := false } }
  | .jump => { r with pc := pair l.hi l.lo }
  | .jumpNext => { r with pc := pair l.hi l.lo + 1 }
  | .goto a => { r with pc := a }

/-! ## Sequences -/

/-- The address of a place, when the request is emitted. -/
def Place.addr (p : Place) (s : State) : Addr :=
  match p with
  | .fixed a => a
  | .pc => s.regs.pc
  | .stack => stackAt s.regs.s
  | .ea => s.loc.ea
  | .pair => Sys2Proof.Machine.pair s.loc.hi s.loc.lo

/-- A local is set. -/
def Locals.set (l : Locals) (d : Loc) (v : Byte) : Locals :=
  match d with
  | .lo => { l with lo := v }
  | .hi => { l with hi := v }
  | .val => { l with val := v }

/-- A read request. -/
def readReq (a : Addr) : Request := { kind := .read, addr := a, value := 0 }

/-- A write request. -/
def writeReq (a : Addr) (v : Byte) : Request := { kind := .write, addr := a, value := v }

/-- The request an element of a sequence emits, if it emits one (R205, R207). -/
def Micro.request (m : Micro) (s : State) : Option Request :=
  match m with
  | .setEa _ => none
  | .setVal _ => none
  | .setLo _ => none
  | .pointer _ => none
  | .act _ => none
  | .discard p => some (readReq (p.addr s))
  | .discardIfCrossed p => if s.loc.crossed then some (readReq (p.addr s)) else none
  | .read p _ => some (readReq (p.addr s))
  | .operandHi => some { kind := .fetchOperand, addr := s.regs.pc, value := 0 }
  | .write p b => some (writeReq (p.addr s) b)
  | .writeBack p op => some (writeReq (p.addr s) (rmwValue op s.regs.p s.regs.a s.loc.val))
  | .push b => some (writeReq (stackAt s.regs.s) b)
  | .pull _ => some (readReq (stackAt (s.regs.s + 1)))

/-- What an element does before its request is emitted: `Pull()` first increments S (R13). -/
def Micro.before (m : Micro) (s : State) : State :=
  match m with
  | .pull _ => { s with regs := { s.regs with s := s.regs.s + 1 } }
  | .setEa _ => s
  | .setVal _ => s
  | .setLo _ => s
  | .pointer _ => s
  | .act _ => s
  | .discard _ => s
  | .discardIfCrossed _ => s
  | .read _ _ => s
  | .operandHi => s
  | .write _ _ => s
  | .writeBack _ _ => s
  | .push _ => s

/-- What an element does once its request was answered with byte `v`, or, for an internal operation, at
once. -/
def Micro.after (m : Micro) (v : Byte) (s : State) : State :=
  match m with
  | .setEa a => { s with loc := { s.loc with ea := a } }
  | .setVal b => { s with loc := { s.loc with val := b } }
  | .setLo b => { s with loc := { s.loc with lo := b } }
  | .pointer off =>
    let base := Sys2Proof.Machine.pair s.loc.hi s.loc.lo
    { s with loc := { s.loc with ea := base + zext off, crossed := crosses base (base + zext off) } }
  | .act e => { s with regs := e.apply s.loc s.regs }
  | .discard _ => s
  | .discardIfCrossed _ => s
  | .read _ d => { s with loc := s.loc.set d v }
  | .operandHi => { s with loc := { s.loc with hi := v }, regs := { s.regs with pc := s.regs.pc + 1 } }
  | .write _ _ => s
  | .writeBack _ _ => s
  | .push _ => { s with regs := { s.regs with s := s.regs.s - 1 } }
  | .pull d => { s with loc := s.loc.set d v }

/-- The CPU suspended on request `r` with continuation `k` (R200). -/
def suspend (r : Request) (k : Cont) (s : State) : State := { s with req := some r, cont := k }

/-- The end of every instruction: `FetchOp(PC)` is emitted, and the CPU is at a fetch boundary (R203). -/
def retire (s : State) : State :=
  suspend { kind := .fetchOpcode, addr := s.regs.pc, value := 0 } .boundary { s with loc := Locals.clear }

/-- A sequence up to its next request, where the CPU suspends (R200): the spec's one request for each
arbiter step. -/
def emit : List Micro → State → State
  | [], s => retire s
  | m :: rest, s =>
    match m.request s with
    | none => emit rest (m.after 0 s)
    | some r => suspend r (.running (m :: rest)) (m.before s)

/-- A sequence run on for as long as it is the CPU's turn (R100): it ends at the next fetch boundary, or
suspended at a request before which an action is due or the CPU may not be advanced. -/
def perform : List Micro → State → State
  | [], s => retire s
  | m :: rest, s =>
    match m.request s with
    | none => perform rest (m.after 0 s)
    | some r =>
      let s₁ := suspend r (.running (m :: rest)) (m.before s)
      if turn s₁ = .cpu then
        let q := serve r s₁
        perform rest (m.after q.1 q.2)
      else s₁

/-- The outcome of an instruction's meaning: its sequence, performed. -/
def meaning (seq : List Micro) (s : State) : Host.Outcome State Fault Refusal := .next (perform seq s)

/-! ## Taking an exception and returning from one -/

/-- The NMI vector (R87). -/
def nmiVector : Addr := 0xFFFA

/-- The RESET vector (R87). -/
def resetVector : Addr := 0xFFFC

/-- The IRQ/BRK vector (R87). -/
def irqVector : Addr := 0xFFFE

/-- TAKING AN EXCEPTION, the "push-PC/push-flags/fetch-vector sequence" that BRK, IRQ and NMI share
(R395, R458): PC and the flags, with B as given, are pushed, the vector is read through `decode`, I is
set, D cleared, and PC loaded. -/
def exceptionSeq (vec : Addr) (b : Bool) (r : Regs) : List Micro :=
  [.push (hiByte r.pc), .push (loByte r.pc), .push (r.p.toByte b), .read (.fixed vec) .lo,
    .read (.fixed (vec + 1)) .hi, .act .mask, .act .jump]

/-- NMI and IRQ entry (R458): `Discard(PC)` with PC not advanced, then the exception with B = 0. -/
def interruptSeq (vec : Addr) (r : Regs) : List Micro := .discard .pc :: exceptionSeq vec false r

/-- RETURN FROM AN INTERRUPT (R394, R464): the flags, then PC, are pulled. -/
def returnSeq : List Micro :=
  [.discard .pc, .discard .stack, .pull .val, .act .pullFlags, .pull .lo, .pull .hi, .act .jump]

/-- The sequence an interrupt mask asks for at a fetch boundary, by priority: RESET, NMI, and IRQ if
I = 0 (R456, R457, R461); none if the fetched opcode runs. -/
def interruptFor (m : IrqMask) (r : Regs) : Option (List Micro) :=
  if m.reset then some resetSeq
  else if m.nmi then some (interruptSeq nmiVector r)
  else if m.irq && !r.p.i then some (interruptSeq irqVector r)
  else none

/-- Mask acknowledgement at a FETCH_OPCODE response (R463). -/
def acknowledge (m : IrqMask) : IrqMask :=
  if m.reset then { m with reset := false } else { m with nmi := false }

end Sys2Proof.Machine
end

