-- ==== Sys2Proof/Machine/Operands.lean ====
section
/-! DEFINITION. Machine/Operands.lean: every operand form (30_encoding.md R161 to R166) and the bus
sequence of every access class (40_cpu_machine.md R207, R208, R210 to R214). A sequence starts after the
instruction's operand bytes have been fetched, with `r.pc` the address after them. -/

namespace Sys2Proof.Machine

/-! ## Effective addresses

Each form ends with the effective address in the local `ea`. -/

/-- The address of the operand byte just fetched, "PC-1" (R210). -/
def lastOperand (r : Regs) : Place := .fixed (r.pc - 1)

/-- Zero page (R161). -/
def eaZp (z : Byte) : List Micro := [.setEa (zext z)]

/-- Zero page indexed: the sum wraps inside page 0 (R161, R162). -/
def eaZpIndexed (z i : Byte) (r : Regs) : List Micro := [.discard (lastOperand r), .setEa (zext (z + i))]

/-- Absolute (R161). -/
def eaAbs (a : Addr) : List Micro := [.setEa a]

/-- Absolute indexed (R161, R163): the extra request is made if a page is crossed, or `always`. -/
def eaAbsIndexed (always : Bool) (a : Addr) (i : Byte) (r : Regs) : List Micro :=
  (if always || crosses a (a + zext i) then [.discard (lastOperand r)] else []) ++ [.setEa (a + zext i)]

/-- The two reads of a zero-page pointer, which wraps inside page 0 (R161, R162). -/
def readPointer (z : Byte) : List Micro := [.read (.fixed (zext z)) .lo, .read (.fixed (zext (z + 1))) .hi]

/-- (Zero page,X) (R161). -/
def eaIzx (z : Byte) (r : Regs) : List Micro :=
  .discard (lastOperand r) :: readPointer (z + r.x) ++ [.pointer 0]

/-- (Zero page),Y (R161, R163): the extra request is made if a page is crossed, or `always`. -/
def eaIzy (always : Bool) (z : Byte) (r : Regs) : List Micro :=
  readPointer z ++ [.pointer r.y, if always then .discard (.fixed (zext (z + 1))) else .discardIfCrossed (.fixed (zext (z + 1)))]

/-- (Zero page) (R161). -/
def eaIzp (z : Byte) : List Micro := readPointer z ++ [.pointer 0]

/-! ## Access classes -/

/-- The read class (R210): the operand is read and `e` done. -/
def readSeq (ea : List Micro) (e : Act) : List Micro := ea ++ [.read .ea .val, .act e]

/-- The extra request of decimal mode (R208). -/
def decimalExtra (r : Regs) : List Micro := if r.p.d then [.discard .ea] else []

/-- ADC and SBC: the read class with the extra request of decimal mode (R208, R210). -/
def arithSeq (ea : List Micro) (e : Act) (r : Regs) : List Micro :=
  ea ++ [.read .ea .val] ++ decimalExtra r ++ [.act e]

/-- The read class with an immediate operand, which was fetched with the instruction (R210). -/
def immSeq (v : Byte) (e : Act) : List Micro := [.setVal v, .act e]

/-- ADC and SBC immediate: the extra request reads the operand byte again (R208). -/
def arithImmSeq (v : Byte) (e : Act) (r : Regs) : List Micro :=
  [.setVal v, .setEa (r.pc - 1)] ++ decimalExtra r ++ [.act e]

/-- The write class (R211). -/
def writeSeq (ea : List Micro) (w : Byte) : List Micro := ea ++ [.write .ea w]

/-- The read-modify-write class on memory (R212): read, `Discard(ea)`, write, flags. -/
def rmwSeq (ea : List Micro) (op : Rmw) : List Micro :=
  ea ++ [.read .ea .val, .discard .ea, .writeBack .ea op, .act (.rmwSetFlags op)]

/-- Implied and accumulator forms (R212 row acc, R213): `Discard(PC)`. -/
def impliedSeq (e : Act) : List Micro := [.discard .pc, .act e]

/-- Pushes (R213). -/
def pushSeq (w : Byte) : List Micro := [.discard .pc, .push w]

/-- Pulls (R213). -/
def pullSeq (e : Act) : List Micro := [.discard .pc, .discard .stack, .pull .val, .act e]

/-! ## Control transfer -/

/-- The target of a branch (R164, R381). -/
def branchTarget (nn : Byte) (r : Regs) : Addr := r.pc + sext nn

/-- The common branch rule (R381). -/
def branchSeq (taken : Bool) (nn : Byte) (r : Regs) : List Micro :=
  if taken then
    .discard (.fixed r.pc) ::
      (if crosses (branchTarget nn r) r.pc then [.discard (.fixed r.pc)] else []) ++
      [.act (.goto (branchTarget nn r))]
  else []

/-- A jump through the pointer at `p` (R391). -/
def jumpThrough (p : Addr) (r : Regs) : List Micro :=
  [.discard (lastOperand r), .read (.fixed p) .lo, .read (.fixed (p + 1)) .hi, .act .jump]

end Sys2Proof.Machine
end

