-- ==== Sys2Proof/Machine/Alu.lean ====
section
/-! DEFINITION. Machine/Alu.lean: the meanings of the
arithmetic, logic, compares, bit test, register increments and decrements (42_alu.md R305 to R314, R317 to R320).
Each is the instruction's bus sequence, performed; the sequence starts once the operand bytes have been
fetched. -/

namespace Sys2Proof.Machine

/-- ADC (zero page,X), opcode 0x61 (R305, R208, R210). -/
def seqAdcIzx (z : Byte) (r : Regs) : List Micro := arithSeq (eaIzx z r) .adc r

/-- The meaning of ADC (zero page,X) (R305). -/
def execAdcIzx (z : Byte) (s : State) : Host.Outcome State Fault Refusal :=
  meaning (seqAdcIzx z s.regs) s

/-- ADC zero page, opcode 0x65 (R305, R208, R210). -/
def seqAdcZp (z : Byte) (r : Regs) : List Micro := arithSeq (eaZp z) .adc r

/-- The meaning of ADC zero page (R305). -/
def execAdcZp (z : Byte) (s : State) : Host.Outcome State Fault Refusal :=
  meaning (seqAdcZp z s.regs) s

/-- ADC immediate, opcode 0x69 (R305, R208, R210). -/
def seqAdcImm (v : Byte) (r : Regs) : List Micro := arithImmSeq v .adc r

/-- The meaning of ADC immediate (R305). -/
def execAdcImm (v : Byte) (s : State) : Host.Outcome State Fault Refusal :=
  meaning (seqAdcImm v s.regs) s

/-- ADC absolute, opcode 0x6D (R305, R208, R210). -/
def seqAdcAbs (a : Addr) (r : Regs) : List Micro := arithSeq (eaAbs a) .adc r

/-- The meaning of ADC absolute (R305). -/
def execAdcAbs (a : Addr) (s : State) : Host.Outcome State Fault Refusal :=
  meaning (seqAdcAbs a s.regs) s

/-- ADC (zero page),Y, opcode 0x71 (R305, R208, R210). -/
def seqAdcIzy (z : Byte) (r : Regs) : List Micro := arithSeq (eaIzy false z r) .adc r

/-- The meaning of ADC (zero page),Y (R305). -/
def execAdcIzy (z : Byte) (s : State) : Host.Outcome State Fault Refusal :=
  meaning (seqAdcIzy z s.regs) s

/-- ADC (zero page), opcode 0x72 (R305, R208, R210). -/
def seqAdcIzp (z : Byte) (r : Regs) : List Micro := arithSeq (eaIzp z) .adc r

/-- The meaning of ADC (zero page) (R305). -/
def execAdcIzp (z : Byte) (s : State) : Host.Outcome State Fault Refusal :=
  meaning (seqAdcIzp z s.regs) s

/-- ADC zero page,X, opcode 0x75 (R305, R208, R210). -/
def seqAdcZpx (z : Byte) (r : Regs) : List Micro := arithSeq (eaZpIndexed z r.x r) .adc r

/-- The meaning of ADC zero page,X (R305). -/
def execAdcZpx (z : Byte) (s : State) : Host.Outcome State Fault Refusal :=
  meaning (seqAdcZpx z s.regs) s

/-- ADC absolute,Y, opcode 0x79 (R305, R208, R210). -/
def seqAdcAby (a : Addr) (r : Regs) : List Micro := arithSeq (eaAbsIndexed false a r.y r) .adc r

/-- The meaning of ADC absolute,Y (R305). -/
def execAdcAby (a : Addr) (s : State) : Host.Outcome State Fault Refusal :=
  meaning (seqAdcAby a s.regs) s

/-- ADC absolute,X, opcode 0x7D (R305, R208, R210). -/
def seqAdcAbx (a : Addr) (r : Regs) : List Micro := arithSeq (eaAbsIndexed false a r.x r) .adc r

/-- The meaning of ADC absolute,X (R305). -/
def execAdcAbx (a : Addr) (s : State) : Host.Outcome State Fault Refusal :=
  meaning (seqAdcAbx a s.regs) s

/-- SBC (zero page,X), opcode 0xE1 (R306, R208, R210). -/
def seqSbcIzx (z : Byte) (r : Regs) : List Micro := arithSeq (eaIzx z r) .sbc r

/-- The meaning of SBC (zero page,X) (R306). -/
def execSbcIzx (z : Byte) (s : State) : Host.Outcome State Fault Refusal :=
  meaning (seqSbcIzx z s.regs) s

/-- SBC zero page, opcode 0xE5 (R306, R208, R210). -/
def seqSbcZp (z : Byte) (r : Regs) : List Micro := arithSeq (eaZp z) .sbc r

/-- The meaning of SBC zero page (R306). -/
def execSbcZp (z : Byte) (s : State) : Host.Outcome State Fault Refusal :=
  meaning (seqSbcZp z s.regs) s

/-- SBC immediate, opcode 0xE9 (R306, R208, R210). -/
def seqSbcImm (v : Byte) (r : Regs) : List Micro := arithImmSeq v .sbc r

/-- The meaning of SBC immediate (R306). -/
def execSbcImm (v : Byte) (s : State) : Host.Outcome State Fault Refusal :=
  meaning (seqSbcImm v s.regs) s

/-- SBC absolute, opcode 0xED (R306, R208, R210). -/
def seqSbcAbs (a : Addr) (r : Regs) : List Micro := arithSeq (eaAbs a) .sbc r

/-- The meaning of SBC absolute (R306). -/
def execSbcAbs (a : Addr) (s : State) : Host.Outcome State Fault Refusal :=
  meaning (seqSbcAbs a s.regs) s

/-- SBC (zero page),Y, opcode 0xF1 (R306, R208, R210). -/
def seqSbcIzy (z : Byte) (r : Regs) : List Micro := arithSeq (eaIzy false z r) .sbc r

/-- The meaning of SBC (zero page),Y (R306). -/
def execSbcIzy (z : Byte) (s : State) : Host.Outcome State Fault Refusal :=
  meaning (seqSbcIzy z s.regs) s

/-- SBC (zero page), opcode 0xF2 (R306, R208, R210). -/
def seqSbcIzp (z : Byte) (r : Regs) : List Micro := arithSeq (eaIzp z) .sbc r

/-- The meaning of SBC (zero page) (R306). -/
def execSbcIzp (z : Byte) (s : State) : Host.Outcome State Fault Refusal :=
  meaning (seqSbcIzp z s.regs) s

/-- SBC zero page,X, opcode 0xF5 (R306, R208, R210). -/
def seqSbcZpx (z : Byte) (r : Regs) : List Micro := arithSeq (eaZpIndexed z r.x r) .sbc r

/-- The meaning of SBC zero page,X (R306). -/
def execSbcZpx (z : Byte) (s : State) : Host.Outcome State Fault Refusal :=
  meaning (seqSbcZpx z s.regs) s

/-- SBC absolute,Y, opcode 0xF9 (R306, R208, R210). -/
def seqSbcAby (a : Addr) (r : Regs) : List Micro := arithSeq (eaAbsIndexed false a r.y r) .sbc r

/-- The meaning of SBC absolute,Y (R306). -/
def execSbcAby (a : Addr) (s : State) : Host.Outcome State Fault Refusal :=
  meaning (seqSbcAby a s.regs) s

/-- SBC absolute,X, opcode 0xFD (R306, R208, R210). -/
def seqSbcAbx (a : Addr) (r : Regs) : List Micro := arithSeq (eaAbsIndexed false a r.x r) .sbc r

/-- The meaning of SBC absolute,X (R306). -/
def execSbcAbx (a : Addr) (s : State) : Host.Outcome State Fault Refusal :=
  meaning (seqSbcAbx a s.regs) s

/-- AND (zero page,X), opcode 0x21 (R307, R210). -/
def seqAndIzx (z : Byte) (r : Regs) : List Micro := readSeq (eaIzx z r) .and

/-- The meaning of AND (zero page,X) (R307). -/
def execAndIzx (z : Byte) (s : State) : Host.Outcome State Fault Refusal :=
  meaning (seqAndIzx z s.regs) s

/-- AND zero page, opcode 0x25 (R307, R210). -/
def seqAndZp (z : Byte) : List Micro := readSeq (eaZp z) .and

/-- The meaning of AND zero page (R307). -/
def execAndZp (z : Byte) (s : State) : Host.Outcome State Fault Refusal := meaning (seqAndZp z) s

/-- AND immediate, opcode 0x29 (R307, R210). -/
def seqAndImm (v : Byte) : List Micro := immSeq v .and

/-- The meaning of AND immediate (R307). -/
def execAndImm (v : Byte) (s : State) : Host.Outcome State Fault Refusal := meaning (seqAndImm v) s

/-- AND absolute, opcode 0x2D (R307, R210). -/
def seqAndAbs (a : Addr) : List Micro := readSeq (eaAbs a) .and

/-- The meaning of AND absolute (R307). -/
def execAndAbs (a : Addr) (s : State) : Host.Outcome State Fault Refusal := meaning (seqAndAbs a) s

/-- AND (zero page),Y, opcode 0x31 (R307, R210). -/
def seqAndIzy (z : Byte) (r : Regs) : List Micro := readSeq (eaIzy false z r) .and

/-- The meaning of AND (zero page),Y (R307). -/
def execAndIzy (z : Byte) (s : State) : Host.Outcome State Fault Refusal :=
  meaning (seqAndIzy z s.regs) s

/-- AND (zero page), opcode 0x32 (R307, R210). -/
def seqAndIzp (z : Byte) : List Micro := readSeq (eaIzp z) .and

/-- The meaning of AND (zero page) (R307). -/
def execAndIzp (z : Byte) (s : State) : Host.Outcome State Fault Refusal := meaning (seqAndIzp z) s

/-- AND zero page,X, opcode 0x35 (R307, R210). -/
def seqAndZpx (z : Byte) (r : Regs) : List Micro := readSeq (eaZpIndexed z r.x r) .and

/-- The meaning of AND zero page,X (R307). -/
def execAndZpx (z : Byte) (s : State) : Host.Outcome State Fault Refusal :=
  meaning (seqAndZpx z s.regs) s

/-- AND absolute,Y, opcode 0x39 (R307, R210). -/
def seqAndAby (a : Addr) (r : Regs) : List Micro := readSeq (eaAbsIndexed false a r.y r) .and

/-- The meaning of AND absolute,Y (R307). -/
def execAndAby (a : Addr) (s : State) : Host.Outcome State Fault Refusal :=
  meaning (seqAndAby a s.regs) s

/-- AND absolute,X, opcode 0x3D (R307, R210). -/
def seqAndAbx (a : Addr) (r : Regs) : List Micro := readSeq (eaAbsIndexed false a r.x r) .and

/-- The meaning of AND absolute,X (R307). -/
def execAndAbx (a : Addr) (s : State) : Host.Outcome State Fault Refusal :=
  meaning (seqAndAbx a s.regs) s

/-- ORA (zero page,X), opcode 0x01 (R308, R210). -/
def seqOraIzx (z : Byte) (r : Regs) : List Micro := readSeq (eaIzx z r) .ora

/-- The meaning of ORA (zero page,X) (R308). -/
def execOraIzx (z : Byte) (s : State) : Host.Outcome State Fault Refusal :=
  meaning (seqOraIzx z s.regs) s

/-- ORA zero page, opcode 0x05 (R308, R210). -/
def seqOraZp (z : Byte) : List Micro := readSeq (eaZp z) .ora

/-- The meaning of ORA zero page (R308). -/
def execOraZp (z : Byte) (s : State) : Host.Outcome State Fault Refusal := meaning (seqOraZp z) s

/-- ORA immediate, opcode 0x09 (R308, R210). -/
def seqOraImm (v : Byte) : List Micro := immSeq v .ora

/-- The meaning of ORA immediate (R308). -/
def execOraImm (v : Byte) (s : State) : Host.Outcome State Fault Refusal := meaning (seqOraImm v) s

/-- ORA absolute, opcode 0x0D (R308, R210). -/
def seqOraAbs (a : Addr) : List Micro := readSeq (eaAbs a) .ora

/-- The meaning of ORA absolute (R308). -/
def execOraAbs (a : Addr) (s : State) : Host.Outcome State Fault Refusal := meaning (seqOraAbs a) s

/-- ORA (zero page),Y, opcode 0x11 (R308, R210). -/
def seqOraIzy (z : Byte) (r : Regs) : List Micro := readSeq (eaIzy false z r) .ora

/-- The meaning of ORA (zero page),Y (R308). -/
def execOraIzy (z : Byte) (s : State) : Host.Outcome State Fault Refusal :=
  meaning (seqOraIzy z s.regs) s

/-- ORA (zero page), opcode 0x12 (R308, R210). -/
def seqOraIzp (z : Byte) : List Micro := readSeq (eaIzp z) .ora

/-- The meaning of ORA (zero page) (R308). -/
def execOraIzp (z : Byte) (s : State) : Host.Outcome State Fault Refusal := meaning (seqOraIzp z) s

/-- ORA zero page,X, opcode 0x15 (R308, R210). -/
def seqOraZpx (z : Byte) (r : Regs) : List Micro := readSeq (eaZpIndexed z r.x r) .ora

/-- The meaning of ORA zero page,X (R308). -/
def execOraZpx (z : Byte) (s : State) : Host.Outcome State Fault Refusal :=
  meaning (seqOraZpx z s.regs) s

/-- ORA absolute,Y, opcode 0x19 (R308, R210). -/
def seqOraAby (a : Addr) (r : Regs) : List Micro := readSeq (eaAbsIndexed false a r.y r) .ora

/-- The meaning of ORA absolute,Y (R308). -/
def execOraAby (a : Addr) (s : State) : Host.Outcome State Fault Refusal :=
  meaning (seqOraAby a s.regs) s

/-- ORA absolute,X, opcode 0x1D (R308, R210). -/
def seqOraAbx (a : Addr) (r : Regs) : List Micro := readSeq (eaAbsIndexed false a r.x r) .ora

/-- The meaning of ORA absolute,X (R308). -/
def execOraAbx (a : Addr) (s : State) : Host.Outcome State Fault Refusal :=
  meaning (seqOraAbx a s.regs) s

/-- EOR (zero page,X), opcode 0x41 (R309, R210). -/
def seqEorIzx (z : Byte) (r : Regs) : List Micro := readSeq (eaIzx z r) .eor

/-- The meaning of EOR (zero page,X) (R309). -/
def execEorIzx (z : Byte) (s : State) : Host.Outcome State Fault Refusal :=
  meaning (seqEorIzx z s.regs) s

/-- EOR zero page, opcode 0x45 (R309, R210). -/
def seqEorZp (z : Byte) : List Micro := readSeq (eaZp z) .eor

/-- The meaning of EOR zero page (R309). -/
def execEorZp (z : Byte) (s : State) : Host.Outcome State Fault Refusal := meaning (seqEorZp z) s

/-- EOR immediate, opcode 0x49 (R309, R210). -/
def seqEorImm (v : Byte) : List Micro := immSeq v .eor

/-- The meaning of EOR immediate (R309). -/
def execEorImm (v : Byte) (s : State) : Host.Outcome State Fault Refusal := meaning (seqEorImm v) s

/-- EOR absolute, opcode 0x4D (R309, R210). -/
def seqEorAbs (a : Addr) : List Micro := readSeq (eaAbs a) .eor

/-- The meaning of EOR absolute (R309). -/
def execEorAbs (a : Addr) (s : State) : Host.Outcome State Fault Refusal := meaning (seqEorAbs a) s

/-- EOR (zero page),Y, opcode 0x51 (R309, R210). -/
def seqEorIzy (z : Byte) (r : Regs) : List Micro := readSeq (eaIzy false z r) .eor

/-- The meaning of EOR (zero page),Y (R309). -/
def execEorIzy (z : Byte) (s : State) : Host.Outcome State Fault Refusal :=
  meaning (seqEorIzy z s.regs) s

/-- EOR (zero page), opcode 0x52 (R309, R210). -/
def seqEorIzp (z : Byte) : List Micro := readSeq (eaIzp z) .eor

/-- The meaning of EOR (zero page) (R309). -/
def execEorIzp (z : Byte) (s : State) : Host.Outcome State Fault Refusal := meaning (seqEorIzp z) s

/-- EOR zero page,X, opcode 0x55 (R309, R210). -/
def seqEorZpx (z : Byte) (r : Regs) : List Micro := readSeq (eaZpIndexed z r.x r) .eor

/-- The meaning of EOR zero page,X (R309). -/
def execEorZpx (z : Byte) (s : State) : Host.Outcome State Fault Refusal :=
  meaning (seqEorZpx z s.regs) s

/-- EOR absolute,Y, opcode 0x59 (R309, R210). -/
def seqEorAby (a : Addr) (r : Regs) : List Micro := readSeq (eaAbsIndexed false a r.y r) .eor

/-- The meaning of EOR absolute,Y (R309). -/
def execEorAby (a : Addr) (s : State) : Host.Outcome State Fault Refusal :=
  meaning (seqEorAby a s.regs) s

/-- EOR absolute,X, opcode 0x5D (R309, R210). -/
def seqEorAbx (a : Addr) (r : Regs) : List Micro := readSeq (eaAbsIndexed false a r.x r) .eor

/-- The meaning of EOR absolute,X (R309). -/
def execEorAbx (a : Addr) (s : State) : Host.Outcome State Fault Refusal :=
  meaning (seqEorAbx a s.regs) s

/-- CMP (zero page,X), opcode 0xC1 (R311, R210). -/
def seqCmpIzx (z : Byte) (r : Regs) : List Micro := readSeq (eaIzx z r) (.cmp .a)

/-- The meaning of CMP (zero page,X) (R311). -/
def execCmpIzx (z : Byte) (s : State) : Host.Outcome State Fault Refusal :=
  meaning (seqCmpIzx z s.regs) s

/-- CMP zero page, opcode 0xC5 (R311, R210). -/
def seqCmpZp (z : Byte) : List Micro := readSeq (eaZp z) (.cmp .a)

/-- The meaning of CMP zero page (R311). -/
def execCmpZp (z : Byte) (s : State) : Host.Outcome State Fault Refusal := meaning (seqCmpZp z) s

/-- CMP immediate, opcode 0xC9 (R311, R210). -/
def seqCmpImm (v : Byte) : List Micro := immSeq v (.cmp .a)

/-- The meaning of CMP immediate (R311). -/
def execCmpImm (v : Byte) (s : State) : Host.Outcome State Fault Refusal := meaning (seqCmpImm v) s

/-- CMP absolute, opcode 0xCD (R311, R210). -/
def seqCmpAbs (a : Addr) : List Micro := readSeq (eaAbs a) (.cmp .a)

/-- The meaning of CMP absolute (R311). -/
def execCmpAbs (a : Addr) (s : State) : Host.Outcome State Fault Refusal := meaning (seqCmpAbs a) s

/-- CMP (zero page),Y, opcode 0xD1 (R311, R210). -/
def seqCmpIzy (z : Byte) (r : Regs) : List Micro := readSeq (eaIzy false z r) (.cmp .a)

/-- The meaning of CMP (zero page),Y (R311). -/
def execCmpIzy (z : Byte) (s : State) : Host.Outcome State Fault Refusal :=
  meaning (seqCmpIzy z s.regs) s

/-- CMP (zero page), opcode 0xD2 (R311, R210). -/
def seqCmpIzp (z : Byte) : List Micro := readSeq (eaIzp z) (.cmp .a)

/-- The meaning of CMP (zero page) (R311). -/
def execCmpIzp (z : Byte) (s : State) : Host.Outcome State Fault Refusal := meaning (seqCmpIzp z) s

/-- CMP zero page,X, opcode 0xD5 (R311, R210). -/
def seqCmpZpx (z : Byte) (r : Regs) : List Micro := readSeq (eaZpIndexed z r.x r) (.cmp .a)

/-- The meaning of CMP zero page,X (R311). -/
def execCmpZpx (z : Byte) (s : State) : Host.Outcome State Fault Refusal :=
  meaning (seqCmpZpx z s.regs) s

/-- CMP absolute,Y, opcode 0xD9 (R311, R210). -/
def seqCmpAby (a : Addr) (r : Regs) : List Micro := readSeq (eaAbsIndexed false a r.y r) (.cmp .a)

/-- The meaning of CMP absolute,Y (R311). -/
def execCmpAby (a : Addr) (s : State) : Host.Outcome State Fault Refusal :=
  meaning (seqCmpAby a s.regs) s

/-- CMP absolute,X, opcode 0xDD (R311, R210). -/
def seqCmpAbx (a : Addr) (r : Regs) : List Micro := readSeq (eaAbsIndexed false a r.x r) (.cmp .a)

/-- The meaning of CMP absolute,X (R311). -/
def execCmpAbx (a : Addr) (s : State) : Host.Outcome State Fault Refusal :=
  meaning (seqCmpAbx a s.regs) s

/-- CPX immediate, opcode 0xE0 (R312, R210). -/
def seqCpxImm (v : Byte) : List Micro := immSeq v (.cmp .x)

/-- The meaning of CPX immediate (R312). -/
def execCpxImm (v : Byte) (s : State) : Host.Outcome State Fault Refusal := meaning (seqCpxImm v) s

/-- CPX zero page, opcode 0xE4 (R312, R210). -/
def seqCpxZp (z : Byte) : List Micro := readSeq (eaZp z) (.cmp .x)

/-- The meaning of CPX zero page (R312). -/
def execCpxZp (z : Byte) (s : State) : Host.Outcome State Fault Refusal := meaning (seqCpxZp z) s

/-- CPX absolute, opcode 0xEC (R312, R210). -/
def seqCpxAbs (a : Addr) : List Micro := readSeq (eaAbs a) (.cmp .x)

/-- The meaning of CPX absolute (R312). -/
def execCpxAbs (a : Addr) (s : State) : Host.Outcome State Fault Refusal := meaning (seqCpxAbs a) s

/-- CPY immediate, opcode 0xC0 (R313, R210). -/
def seqCpyImm (v : Byte) : List Micro := immSeq v (.cmp .y)

/-- The meaning of CPY immediate (R313). -/
def execCpyImm (v : Byte) (s : State) : Host.Outcome State Fault Refusal := meaning (seqCpyImm v) s

/-- CPY zero page, opcode 0xC4 (R313, R210). -/
def seqCpyZp (z : Byte) : List Micro := readSeq (eaZp z) (.cmp .y)

/-- The meaning of CPY zero page (R313). -/
def execCpyZp (z : Byte) (s : State) : Host.Outcome State Fault Refusal := meaning (seqCpyZp z) s

/-- CPY absolute, opcode 0xCC (R313, R210). -/
def seqCpyAbs (a : Addr) : List Micro := readSeq (eaAbs a) (.cmp .y)

/-- The meaning of CPY absolute (R313). -/
def execCpyAbs (a : Addr) (s : State) : Host.Outcome State Fault Refusal := meaning (seqCpyAbs a) s

/-- BIT zero page, opcode 0x24 (R314, R210). -/
def seqBitZp (z : Byte) : List Micro := readSeq (eaZp z) .bit

/-- The meaning of BIT zero page (R314). -/
def execBitZp (z : Byte) (s : State) : Host.Outcome State Fault Refusal := meaning (seqBitZp z) s

/-- BIT absolute, opcode 0x2C (R314, R210). -/
def seqBitAbs (a : Addr) : List Micro := readSeq (eaAbs a) .bit

/-- The meaning of BIT absolute (R314). -/
def execBitAbs (a : Addr) (s : State) : Host.Outcome State Fault Refusal := meaning (seqBitAbs a) s

/-- BIT zero page,X, opcode 0x34 (R314, R210). -/
def seqBitZpx (z : Byte) (r : Regs) : List Micro := readSeq (eaZpIndexed z r.x r) .bit

/-- The meaning of BIT zero page,X (R314). -/
def execBitZpx (z : Byte) (s : State) : Host.Outcome State Fault Refusal :=
  meaning (seqBitZpx z s.regs) s

/-- BIT absolute,X, opcode 0x3C (R314, R210). -/
def seqBitAbx (a : Addr) (r : Regs) : List Micro := readSeq (eaAbsIndexed false a r.x r) .bit

/-- The meaning of BIT absolute,X (R314). -/
def execBitAbx (a : Addr) (s : State) : Host.Outcome State Fault Refusal :=
  meaning (seqBitAbx a s.regs) s

/-- BIT immediate, opcode 0x89 (R314, R210). -/
def seqBitImm (v : Byte) : List Micro := immSeq v .bitImm

/-- The meaning of BIT immediate (R314). -/
def execBitImm (v : Byte) (s : State) : Host.Outcome State Fault Refusal := meaning (seqBitImm v) s

/-- INX, opcode 0xE8 (R317, R213). -/
def seqInx : List Micro := impliedSeq (.incReg .x)

/-- The meaning of INX (R317). -/
def execInx (s : State) : Host.Outcome State Fault Refusal := meaning seqInx s

/-- INY, opcode 0xC8 (R318, R213). -/
def seqIny : List Micro := impliedSeq (.incReg .y)

/-- The meaning of INY (R318). -/
def execIny (s : State) : Host.Outcome State Fault Refusal := meaning seqIny s

/-- DEX, opcode 0xCA (R319, R213). -/
def seqDex : List Micro := impliedSeq (.decReg .x)

/-- The meaning of DEX (R319). -/
def execDex (s : State) : Host.Outcome State Fault Refusal := meaning seqDex s

/-- DEY, opcode 0x88 (R320, R213). -/
def seqDey : List Micro := impliedSeq (.decReg .y)

/-- The meaning of DEY (R320). -/
def execDey (s : State) : Host.Outcome State Fault Refusal := meaning seqDey s

end Sys2Proof.Machine
end

