-- ==== Sys2Proof/Machine/Control.lean ====
section
/-! DEFINITION. Machine/Control.lean: the meanings of the
branches, jumps, calls, returns and break (44_control.md R381 to R395).
Each is the instruction's bus sequence, performed; the sequence starts once the operand bytes have been
fetched. -/

namespace Sys2Proof.Machine

/-- BPL, opcode 0x10 (R382, R214). -/
def seqBpl (nn : Byte) (r : Regs) : List Micro := branchSeq (!r.p.n) nn r

/-- The meaning of BPL (R382). -/
def execBpl (nn : Byte) (s : State) : Host.Outcome State Fault Refusal :=
  meaning (seqBpl nn s.regs) s

/-- BMI, opcode 0x30 (R383, R214). -/
def seqBmi (nn : Byte) (r : Regs) : List Micro := branchSeq r.p.n nn r

/-- The meaning of BMI (R383). -/
def execBmi (nn : Byte) (s : State) : Host.Outcome State Fault Refusal :=
  meaning (seqBmi nn s.regs) s

/-- BVC, opcode 0x50 (R384, R214). -/
def seqBvc (nn : Byte) (r : Regs) : List Micro := branchSeq (!r.p.v) nn r

/-- The meaning of BVC (R384). -/
def execBvc (nn : Byte) (s : State) : Host.Outcome State Fault Refusal :=
  meaning (seqBvc nn s.regs) s

/-- BVS, opcode 0x70 (R385, R214). -/
def seqBvs (nn : Byte) (r : Regs) : List Micro := branchSeq r.p.v nn r

/-- The meaning of BVS (R385). -/
def execBvs (nn : Byte) (s : State) : Host.Outcome State Fault Refusal :=
  meaning (seqBvs nn s.regs) s

/-- BCC, opcode 0x90 (R386, R214). -/
def seqBcc (nn : Byte) (r : Regs) : List Micro := branchSeq (!r.p.c) nn r

/-- The meaning of BCC (R386). -/
def execBcc (nn : Byte) (s : State) : Host.Outcome State Fault Refusal :=
  meaning (seqBcc nn s.regs) s

/-- BCS, opcode 0xB0 (R387, R214). -/
def seqBcs (nn : Byte) (r : Regs) : List Micro := branchSeq r.p.c nn r

/-- The meaning of BCS (R387). -/
def execBcs (nn : Byte) (s : State) : Host.Outcome State Fault Refusal :=
  meaning (seqBcs nn s.regs) s

/-- BNE, opcode 0xD0 (R388, R214). -/
def seqBne (nn : Byte) (r : Regs) : List Micro := branchSeq (!r.p.z) nn r

/-- The meaning of BNE (R388). -/
def execBne (nn : Byte) (s : State) : Host.Outcome State Fault Refusal :=
  meaning (seqBne nn s.regs) s

/-- BEQ, opcode 0xF0 (R389, R214). -/
def seqBeq (nn : Byte) (r : Regs) : List Micro := branchSeq r.p.z nn r

/-- The meaning of BEQ (R389). -/
def execBeq (nn : Byte) (s : State) : Host.Outcome State Fault Refusal :=
  meaning (seqBeq nn s.regs) s

/-- BRA, opcode 0x80 (R390, R214). -/
def seqBra (nn : Byte) (r : Regs) : List Micro := branchSeq true nn r

/-- The meaning of BRA (R390). -/
def execBra (nn : Byte) (s : State) : Host.Outcome State Fault Refusal :=
  meaning (seqBra nn s.regs) s

/-- JMP absolute, opcode 0x4C (R391, R214). -/
def seqJmpAbs (a : Addr) : List Micro := [.act (.goto a)]

/-- The meaning of JMP absolute (R391). -/
def execJmpAbs (a : Addr) (s : State) : Host.Outcome State Fault Refusal := meaning (seqJmpAbs a) s

/-- JMP (absolute), opcode 0x6C (R391, R214). -/
def seqJmpInd (a : Addr) (r : Regs) : List Micro := jumpThrough a r

/-- The meaning of JMP (absolute) (R391). -/
def execJmpInd (a : Addr) (s : State) : Host.Outcome State Fault Refusal :=
  meaning (seqJmpInd a s.regs) s

/-- JMP (absolute,X), opcode 0x7C (R391, R214). -/
def seqJmpIax (a : Addr) (r : Regs) : List Micro := jumpThrough (a + zext r.x) r

/-- The meaning of JMP (absolute,X) (R391). -/
def execJmpIax (a : Addr) (s : State) : Host.Outcome State Fault Refusal :=
  meaning (seqJmpIax a s.regs) s

/-- JSR absolute, opcode 0x20 (R392, R214). -/
def seqJsr (a : Addr) (r : Regs) : List Micro :=
  [.setLo (loByte a), .discard .stack, .push (hiByte r.pc), .push (loByte r.pc), .operandHi, .act .jump]

/-- The meaning of JSR absolute (R392). -/
def execJsr (a : Addr) (s : State) : Host.Outcome State Fault Refusal := meaning (seqJsr a s.regs) s

/-- RTS, opcode 0x60 (R393, R214). -/
def seqRts : List Micro :=
  [.discard .pc, .discard .stack, .pull .lo, .pull .hi, .discard .pair, .act .jumpNext]

/-- The meaning of RTS (R393). -/
def execRts (s : State) : Host.Outcome State Fault Refusal := meaning seqRts s

/-- RTI, opcode 0x40 (R394, R214). -/
def seqRti : List Micro := returnSeq

/-- The meaning of RTI (R394). -/
def execRti (s : State) : Host.Outcome State Fault Refusal := meaning seqRti s

/-- BRK, opcode 0x00 (R395, R214). -/
def seqBrk (r : Regs) : List Micro := exceptionSeq irqVector true r

/-- The meaning of BRK (R395). -/
def execBrk (_sig : Byte) (s : State) : Host.Outcome State Fault Refusal :=
  meaning (seqBrk s.regs) s

end Sys2Proof.Machine
end

