-- ==== Sys2Proof/Machine/FlagNop.lean ====
section
/-! DEFINITION. Machine/FlagNop.lean: the meanings of the
flag instructions, no-operations and hiccups (45_system_flags_nop.md R421 to R434).
Each is the instruction's bus sequence, performed; the sequence starts once the operand bytes have been
fetched. -/

namespace Sys2Proof.Machine

/-- CLC, opcode 0x18 (R421, R213). -/
def seqClc : List Micro := impliedSeq (.flag .c false)

/-- The meaning of CLC (R421). -/
def execClc (s : State) : Host.Outcome State Fault Refusal := meaning seqClc s

/-- SEC, opcode 0x38 (R422, R213). -/
def seqSec : List Micro := impliedSeq (.flag .c true)

/-- The meaning of SEC (R422). -/
def execSec (s : State) : Host.Outcome State Fault Refusal := meaning seqSec s

/-- CLI, opcode 0x58 (R423, R213). -/
def seqCli : List Micro := impliedSeq (.flag .i false)

/-- The meaning of CLI (R423). -/
def execCli (s : State) : Host.Outcome State Fault Refusal := meaning seqCli s

/-- SEI, opcode 0x78 (R424, R213). -/
def seqSei : List Micro := impliedSeq (.flag .i true)

/-- The meaning of SEI (R424). -/
def execSei (s : State) : Host.Outcome State Fault Refusal := meaning seqSei s

/-- CLD, opcode 0xD8 (R425, R213). -/
def seqCld : List Micro := impliedSeq (.flag .d false)

/-- The meaning of CLD (R425). -/
def execCld (s : State) : Host.Outcome State Fault Refusal := meaning seqCld s

/-- SED, opcode 0xF8 (R426, R213). -/
def seqSed : List Micro := impliedSeq (.flag .d true)

/-- The meaning of SED (R426). -/
def execSed (s : State) : Host.Outcome State Fault Refusal := meaning seqSed s

/-- CLV, opcode 0xB8 (R427, R213). -/
def seqClv : List Micro := impliedSeq (.flag .v false)

/-- The meaning of CLV (R427). -/
def execClv (s : State) : Host.Outcome State Fault Refusal := meaning seqClv s

/-- NOP, opcode 0xEA (R428, R213). -/
def seqNop : List Micro := [.discard .pc]

/-- The meaning of NOP (R428). -/
def execNop (s : State) : Host.Outcome State Fault Refusal := meaning seqNop s

/-- NOP #imm, opcode 0x02 (R429, R429). -/
def seqNopImm02 : List Micro := []

/-- The meaning of opcode 0x02 (R429). -/
def execNopImm02 (_v : Byte) (s : State) : Host.Outcome State Fault Refusal := meaning seqNopImm02 s

/-- NOP #imm, opcode 0x22 (R429, R429). -/
def seqNopImm22 : List Micro := []

/-- The meaning of opcode 0x22 (R429). -/
def execNopImm22 (_v : Byte) (s : State) : Host.Outcome State Fault Refusal := meaning seqNopImm22 s

/-- NOP #imm, opcode 0x42 (R429, R429). -/
def seqNopImm42 : List Micro := []

/-- The meaning of opcode 0x42 (R429). -/
def execNopImm42 (_v : Byte) (s : State) : Host.Outcome State Fault Refusal := meaning seqNopImm42 s

/-- NOP #imm, opcode 0x62 (R429, R429). -/
def seqNopImm62 : List Micro := []

/-- The meaning of opcode 0x62 (R429). -/
def execNopImm62 (_v : Byte) (s : State) : Host.Outcome State Fault Refusal := meaning seqNopImm62 s

/-- NOP #imm, opcode 0x82 (R429, R429). -/
def seqNopImm82 : List Micro := []

/-- The meaning of opcode 0x82 (R429). -/
def execNopImm82 (_v : Byte) (s : State) : Host.Outcome State Fault Refusal := meaning seqNopImm82 s

/-- NOP #imm, opcode 0xC2 (R429, R429). -/
def seqNopImmC2 : List Micro := []

/-- The meaning of opcode 0xC2 (R429). -/
def execNopImmC2 (_v : Byte) (s : State) : Host.Outcome State Fault Refusal := meaning seqNopImmC2 s

/-- NOP #imm, opcode 0xE2 (R429, R429). -/
def seqNopImmE2 : List Micro := []

/-- The meaning of opcode 0xE2 (R429). -/
def execNopImmE2 (_v : Byte) (s : State) : Host.Outcome State Fault Refusal := meaning seqNopImmE2 s

/-- NOP zp, opcode 0x44 (R430, R207). -/
def seqNopZp44 (z : Byte) : List Micro := eaZp z ++ [.discard .ea]

/-- The meaning of opcode 0x44 (R430). -/
def execNopZp44 (z : Byte) (s : State) : Host.Outcome State Fault Refusal :=
  meaning (seqNopZp44 z) s

/-- NOP zp,X, opcode 0x54 (R431, R207). -/
def seqNopZpx54 (z : Byte) (r : Regs) : List Micro := eaZpIndexed z r.x r ++ [.discard .ea]

/-- The meaning of opcode 0x54 (R431). -/
def execNopZpx54 (z : Byte) (s : State) : Host.Outcome State Fault Refusal :=
  meaning (seqNopZpx54 z s.regs) s

/-- NOP zp,X, opcode 0xD4 (R431, R207). -/
def seqNopZpxD4 (z : Byte) (r : Regs) : List Micro := eaZpIndexed z r.x r ++ [.discard .ea]

/-- The meaning of opcode 0xD4 (R431). -/
def execNopZpxD4 (z : Byte) (s : State) : Host.Outcome State Fault Refusal :=
  meaning (seqNopZpxD4 z s.regs) s

/-- NOP zp,X, opcode 0xF4 (R431, R207). -/
def seqNopZpxF4 (z : Byte) (r : Regs) : List Micro := eaZpIndexed z r.x r ++ [.discard .ea]

/-- The meaning of opcode 0xF4 (R431). -/
def execNopZpxF4 (z : Byte) (s : State) : Host.Outcome State Fault Refusal :=
  meaning (seqNopZpxF4 z s.regs) s

/-- hiccup, opcode 0x03 (R432, R432). -/
def seqNopHic03 : List Micro := []

/-- The meaning of opcode 0x03 (R432). -/
def execNopHic03 (s : State) : Host.Outcome State Fault Refusal := meaning seqNopHic03 s

/-- hiccup, opcode 0x07 (R432, R432). -/
def seqNopHic07 : List Micro := []

/-- The meaning of opcode 0x07 (R432). -/
def execNopHic07 (s : State) : Host.Outcome State Fault Refusal := meaning seqNopHic07 s

/-- hiccup, opcode 0x0B (R432, R432). -/
def seqNopHic0B : List Micro := []

/-- The meaning of opcode 0x0B (R432). -/
def execNopHic0B (s : State) : Host.Outcome State Fault Refusal := meaning seqNopHic0B s

/-- hiccup, opcode 0x0F (R432, R432). -/
def seqNopHic0F : List Micro := []

/-- The meaning of opcode 0x0F (R432). -/
def execNopHic0F (s : State) : Host.Outcome State Fault Refusal := meaning seqNopHic0F s

/-- hiccup, opcode 0x13 (R432, R432). -/
def seqNopHic13 : List Micro := []

/-- The meaning of opcode 0x13 (R432). -/
def execNopHic13 (s : State) : Host.Outcome State Fault Refusal := meaning seqNopHic13 s

/-- hiccup, opcode 0x17 (R432, R432). -/
def seqNopHic17 : List Micro := []

/-- The meaning of opcode 0x17 (R432). -/
def execNopHic17 (s : State) : Host.Outcome State Fault Refusal := meaning seqNopHic17 s

/-- hiccup, opcode 0x1B (R432, R432). -/
def seqNopHic1B : List Micro := []

/-- The meaning of opcode 0x1B (R432). -/
def execNopHic1B (s : State) : Host.Outcome State Fault Refusal := meaning seqNopHic1B s

/-- hiccup, opcode 0x1F (R432, R432). -/
def seqNopHic1F : List Micro := []

/-- The meaning of opcode 0x1F (R432). -/
def execNopHic1F (s : State) : Host.Outcome State Fault Refusal := meaning seqNopHic1F s

/-- hiccup, opcode 0x23 (R432, R432). -/
def seqNopHic23 : List Micro := []

/-- The meaning of opcode 0x23 (R432). -/
def execNopHic23 (s : State) : Host.Outcome State Fault Refusal := meaning seqNopHic23 s

/-- hiccup, opcode 0x27 (R432, R432). -/
def seqNopHic27 : List Micro := []

/-- The meaning of opcode 0x27 (R432). -/
def execNopHic27 (s : State) : Host.Outcome State Fault Refusal := meaning seqNopHic27 s

/-- hiccup, opcode 0x2B (R432, R432). -/
def seqNopHic2B : List Micro := []

/-- The meaning of opcode 0x2B (R432). -/
def execNopHic2B (s : State) : Host.Outcome State Fault Refusal := meaning seqNopHic2B s

/-- hiccup, opcode 0x2F (R432, R432). -/
def seqNopHic2F : List Micro := []

/-- The meaning of opcode 0x2F (R432). -/
def execNopHic2F (s : State) : Host.Outcome State Fault Refusal := meaning seqNopHic2F s

/-- hiccup, opcode 0x33 (R432, R432). -/
def seqNopHic33 : List Micro := []

/-- The meaning of opcode 0x33 (R432). -/
def execNopHic33 (s : State) : Host.Outcome State Fault Refusal := meaning seqNopHic33 s

/-- hiccup, opcode 0x37 (R432, R432). -/
def seqNopHic37 : List Micro := []

/-- The meaning of opcode 0x37 (R432). -/
def execNopHic37 (s : State) : Host.Outcome State Fault Refusal := meaning seqNopHic37 s

/-- hiccup, opcode 0x3B (R432, R432). -/
def seqNopHic3B : List Micro := []

/-- The meaning of opcode 0x3B (R432). -/
def execNopHic3B (s : State) : Host.Outcome State Fault Refusal := meaning seqNopHic3B s

/-- hiccup, opcode 0x3F (R432, R432). -/
def seqNopHic3F : List Micro := []

/-- The meaning of opcode 0x3F (R432). -/
def execNopHic3F (s : State) : Host.Outcome State Fault Refusal := meaning seqNopHic3F s

/-- hiccup, opcode 0x43 (R432, R432). -/
def seqNopHic43 : List Micro := []

/-- The meaning of opcode 0x43 (R432). -/
def execNopHic43 (s : State) : Host.Outcome State Fault Refusal := meaning seqNopHic43 s

/-- hiccup, opcode 0x47 (R432, R432). -/
def seqNopHic47 : List Micro := []

/-- The meaning of opcode 0x47 (R432). -/
def execNopHic47 (s : State) : Host.Outcome State Fault Refusal := meaning seqNopHic47 s

/-- hiccup, opcode 0x4B (R432, R432). -/
def seqNopHic4B : List Micro := []

/-- The meaning of opcode 0x4B (R432). -/
def execNopHic4B (s : State) : Host.Outcome State Fault Refusal := meaning seqNopHic4B s

/-- hiccup, opcode 0x4F (R432, R432). -/
def seqNopHic4F : List Micro := []

/-- The meaning of opcode 0x4F (R432). -/
def execNopHic4F (s : State) : Host.Outcome State Fault Refusal := meaning seqNopHic4F s

/-- hiccup, opcode 0x53 (R432, R432). -/
def seqNopHic53 : List Micro := []

/-- The meaning of opcode 0x53 (R432). -/
def execNopHic53 (s : State) : Host.Outcome State Fault Refusal := meaning seqNopHic53 s

/-- hiccup, opcode 0x57 (R432, R432). -/
def seqNopHic57 : List Micro := []

/-- The meaning of opcode 0x57 (R432). -/
def execNopHic57 (s : State) : Host.Outcome State Fault Refusal := meaning seqNopHic57 s

/-- hiccup, opcode 0x5B (R432, R432). -/
def seqNopHic5B : List Micro := []

/-- The meaning of opcode 0x5B (R432). -/
def execNopHic5B (s : State) : Host.Outcome State Fault Refusal := meaning seqNopHic5B s

/-- hiccup, opcode 0x5F (R432, R432). -/
def seqNopHic5F : List Micro := []

/-- The meaning of opcode 0x5F (R432). -/
def execNopHic5F (s : State) : Host.Outcome State Fault Refusal := meaning seqNopHic5F s

/-- hiccup, opcode 0x63 (R432, R432). -/
def seqNopHic63 : List Micro := []

/-- The meaning of opcode 0x63 (R432). -/
def execNopHic63 (s : State) : Host.Outcome State Fault Refusal := meaning seqNopHic63 s

/-- hiccup, opcode 0x67 (R432, R432). -/
def seqNopHic67 : List Micro := []

/-- The meaning of opcode 0x67 (R432). -/
def execNopHic67 (s : State) : Host.Outcome State Fault Refusal := meaning seqNopHic67 s

/-- hiccup, opcode 0x6B (R432, R432). -/
def seqNopHic6B : List Micro := []

/-- The meaning of opcode 0x6B (R432). -/
def execNopHic6B (s : State) : Host.Outcome State Fault Refusal := meaning seqNopHic6B s

/-- hiccup, opcode 0x6F (R432, R432). -/
def seqNopHic6F : List Micro := []

/-- The meaning of opcode 0x6F (R432). -/
def execNopHic6F (s : State) : Host.Outcome State Fault Refusal := meaning seqNopHic6F s

/-- hiccup, opcode 0x73 (R432, R432). -/
def seqNopHic73 : List Micro := []

/-- The meaning of opcode 0x73 (R432). -/
def execNopHic73 (s : State) : Host.Outcome State Fault Refusal := meaning seqNopHic73 s

/-- hiccup, opcode 0x77 (R432, R432). -/
def seqNopHic77 : List Micro := []

/-- The meaning of opcode 0x77 (R432). -/
def execNopHic77 (s : State) : Host.Outcome State Fault Refusal := meaning seqNopHic77 s

/-- hiccup, opcode 0x7B (R432, R432). -/
def seqNopHic7B : List Micro := []

/-- The meaning of opcode 0x7B (R432). -/
def execNopHic7B (s : State) : Host.Outcome State Fault Refusal := meaning seqNopHic7B s

/-- hiccup, opcode 0x7F (R432, R432). -/
def seqNopHic7F : List Micro := []

/-- The meaning of opcode 0x7F (R432). -/
def execNopHic7F (s : State) : Host.Outcome State Fault Refusal := meaning seqNopHic7F s

/-- hiccup, opcode 0x83 (R432, R432). -/
def seqNopHic83 : List Micro := []

/-- The meaning of opcode 0x83 (R432). -/
def execNopHic83 (s : State) : Host.Outcome State Fault Refusal := meaning seqNopHic83 s

/-- hiccup, opcode 0x87 (R432, R432). -/
def seqNopHic87 : List Micro := []

/-- The meaning of opcode 0x87 (R432). -/
def execNopHic87 (s : State) : Host.Outcome State Fault Refusal := meaning seqNopHic87 s

/-- hiccup, opcode 0x8B (R432, R432). -/
def seqNopHic8B : List Micro := []

/-- The meaning of opcode 0x8B (R432). -/
def execNopHic8B (s : State) : Host.Outcome State Fault Refusal := meaning seqNopHic8B s

/-- hiccup, opcode 0x8F (R432, R432). -/
def seqNopHic8F : List Micro := []

/-- The meaning of opcode 0x8F (R432). -/
def execNopHic8F (s : State) : Host.Outcome State Fault Refusal := meaning seqNopHic8F s

/-- hiccup, opcode 0x93 (R432, R432). -/
def seqNopHic93 : List Micro := []

/-- The meaning of opcode 0x93 (R432). -/
def execNopHic93 (s : State) : Host.Outcome State Fault Refusal := meaning seqNopHic93 s

/-- hiccup, opcode 0x97 (R432, R432). -/
def seqNopHic97 : List Micro := []

/-- The meaning of opcode 0x97 (R432). -/
def execNopHic97 (s : State) : Host.Outcome State Fault Refusal := meaning seqNopHic97 s

/-- hiccup, opcode 0x9B (R432, R432). -/
def seqNopHic9B : List Micro := []

/-- The meaning of opcode 0x9B (R432). -/
def execNopHic9B (s : State) : Host.Outcome State Fault Refusal := meaning seqNopHic9B s

/-- hiccup, opcode 0x9F (R432, R432). -/
def seqNopHic9F : List Micro := []

/-- The meaning of opcode 0x9F (R432). -/
def execNopHic9F (s : State) : Host.Outcome State Fault Refusal := meaning seqNopHic9F s

/-- hiccup, opcode 0xA3 (R432, R432). -/
def seqNopHicA3 : List Micro := []

/-- The meaning of opcode 0xA3 (R432). -/
def execNopHicA3 (s : State) : Host.Outcome State Fault Refusal := meaning seqNopHicA3 s

/-- hiccup, opcode 0xA7 (R432, R432). -/
def seqNopHicA7 : List Micro := []

/-- The meaning of opcode 0xA7 (R432). -/
def execNopHicA7 (s : State) : Host.Outcome State Fault Refusal := meaning seqNopHicA7 s

/-- hiccup, opcode 0xAB (R432, R432). -/
def seqNopHicAB : List Micro := []

/-- The meaning of opcode 0xAB (R432). -/
def execNopHicAB (s : State) : Host.Outcome State Fault Refusal := meaning seqNopHicAB s

/-- hiccup, opcode 0xAF (R432, R432). -/
def seqNopHicAF : List Micro := []

/-- The meaning of opcode 0xAF (R432). -/
def execNopHicAF (s : State) : Host.Outcome State Fault Refusal := meaning seqNopHicAF s

/-- hiccup, opcode 0xB3 (R432, R432). -/
def seqNopHicB3 : List Micro := []

/-- The meaning of opcode 0xB3 (R432). -/
def execNopHicB3 (s : State) : Host.Outcome State Fault Refusal := meaning seqNopHicB3 s

/-- hiccup, opcode 0xB7 (R432, R432). -/
def seqNopHicB7 : List Micro := []

/-- The meaning of opcode 0xB7 (R432). -/
def execNopHicB7 (s : State) : Host.Outcome State Fault Refusal := meaning seqNopHicB7 s

/-- hiccup, opcode 0xBB (R432, R432). -/
def seqNopHicBB : List Micro := []

/-- The meaning of opcode 0xBB (R432). -/
def execNopHicBB (s : State) : Host.Outcome State Fault Refusal := meaning seqNopHicBB s

/-- hiccup, opcode 0xBF (R432, R432). -/
def seqNopHicBF : List Micro := []

/-- The meaning of opcode 0xBF (R432). -/
def execNopHicBF (s : State) : Host.Outcome State Fault Refusal := meaning seqNopHicBF s

/-- hiccup, opcode 0xC3 (R432, R432). -/
def seqNopHicC3 : List Micro := []

/-- The meaning of opcode 0xC3 (R432). -/
def execNopHicC3 (s : State) : Host.Outcome State Fault Refusal := meaning seqNopHicC3 s

/-- hiccup, opcode 0xC7 (R432, R432). -/
def seqNopHicC7 : List Micro := []

/-- The meaning of opcode 0xC7 (R432). -/
def execNopHicC7 (s : State) : Host.Outcome State Fault Refusal := meaning seqNopHicC7 s

/-- hiccup, opcode 0xCB (R432, R432). -/
def seqNopHicCB : List Micro := []

/-- The meaning of opcode 0xCB (R432). -/
def execNopHicCB (s : State) : Host.Outcome State Fault Refusal := meaning seqNopHicCB s

/-- hiccup, opcode 0xCF (R432, R432). -/
def seqNopHicCF : List Micro := []

/-- The meaning of opcode 0xCF (R432). -/
def execNopHicCF (s : State) : Host.Outcome State Fault Refusal := meaning seqNopHicCF s

/-- hiccup, opcode 0xD3 (R432, R432). -/
def seqNopHicD3 : List Micro := []

/-- The meaning of opcode 0xD3 (R432). -/
def execNopHicD3 (s : State) : Host.Outcome State Fault Refusal := meaning seqNopHicD3 s

/-- hiccup, opcode 0xD7 (R432, R432). -/
def seqNopHicD7 : List Micro := []

/-- The meaning of opcode 0xD7 (R432). -/
def execNopHicD7 (s : State) : Host.Outcome State Fault Refusal := meaning seqNopHicD7 s

/-- hiccup, opcode 0xDB (R432, R432). -/
def seqNopHicDB : List Micro := []

/-- The meaning of opcode 0xDB (R432). -/
def execNopHicDB (s : State) : Host.Outcome State Fault Refusal := meaning seqNopHicDB s

/-- hiccup, opcode 0xDF (R432, R432). -/
def seqNopHicDF : List Micro := []

/-- The meaning of opcode 0xDF (R432). -/
def execNopHicDF (s : State) : Host.Outcome State Fault Refusal := meaning seqNopHicDF s

/-- hiccup, opcode 0xE3 (R432, R432). -/
def seqNopHicE3 : List Micro := []

/-- The meaning of opcode 0xE3 (R432). -/
def execNopHicE3 (s : State) : Host.Outcome State Fault Refusal := meaning seqNopHicE3 s

/-- hiccup, opcode 0xE7 (R432, R432). -/
def seqNopHicE7 : List Micro := []

/-- The meaning of opcode 0xE7 (R432). -/
def execNopHicE7 (s : State) : Host.Outcome State Fault Refusal := meaning seqNopHicE7 s

/-- hiccup, opcode 0xEB (R432, R432). -/
def seqNopHicEB : List Micro := []

/-- The meaning of opcode 0xEB (R432). -/
def execNopHicEB (s : State) : Host.Outcome State Fault Refusal := meaning seqNopHicEB s

/-- hiccup, opcode 0xEF (R432, R432). -/
def seqNopHicEF : List Micro := []

/-- The meaning of opcode 0xEF (R432). -/
def execNopHicEF (s : State) : Host.Outcome State Fault Refusal := meaning seqNopHicEF s

/-- hiccup, opcode 0xF3 (R432, R432). -/
def seqNopHicF3 : List Micro := []

/-- The meaning of opcode 0xF3 (R432). -/
def execNopHicF3 (s : State) : Host.Outcome State Fault Refusal := meaning seqNopHicF3 s

/-- hiccup, opcode 0xF7 (R432, R432). -/
def seqNopHicF7 : List Micro := []

/-- The meaning of opcode 0xF7 (R432). -/
def execNopHicF7 (s : State) : Host.Outcome State Fault Refusal := meaning seqNopHicF7 s

/-- hiccup, opcode 0xFB (R432, R432). -/
def seqNopHicFB : List Micro := []

/-- The meaning of opcode 0xFB (R432). -/
def execNopHicFB (s : State) : Host.Outcome State Fault Refusal := meaning seqNopHicFB s

/-- hiccup, opcode 0xFF (R432, R432). -/
def seqNopHicFF : List Micro := []

/-- The meaning of opcode 0xFF (R432). -/
def execNopHicFF (s : State) : Host.Outcome State Fault Refusal := meaning seqNopHicFF s

/-- NOP abs, opcode 0xDC (R433, R207). -/
def seqNopAbsDC (a : Addr) : List Micro := eaAbs a ++ [.discard .ea]

/-- The meaning of opcode 0xDC (R433). -/
def execNopAbsDC (a : Addr) (s : State) : Host.Outcome State Fault Refusal :=
  meaning (seqNopAbsDC a) s

/-- NOP abs, opcode 0xFC (R433, R207). -/
def seqNopAbsFC (a : Addr) : List Micro := eaAbs a ++ [.discard .ea]

/-- The meaning of opcode 0xFC (R433). -/
def execNopAbsFC (a : Addr) (s : State) : Host.Outcome State Fault Refusal :=
  meaning (seqNopAbsFC a) s

/-- NOP abs, opcode 0x5C: five discard reads at `addr hh ll` (R434, R207). `addr` is the parameter
`nop5c_addr`. -/
def seqNopAbs5C (addr : Byte → Byte → Addr) (a : Addr) : List Micro :=
  List.replicate 5 (.discard (.fixed (addr (hiByte a) (loByte a))))

/-- The meaning of opcode 0x5C (R434). -/
def execNopAbs5C (a : Addr) (s : State) : Host.Outcome State Fault Refusal :=
  meaning (seqNopAbs5C Config.nop5cAddr a) s

end Sys2Proof.Machine
end

