-- ==== Sys2Proof/Machine/LoadStore.lean ====
section
/-! DEFINITION. Machine/LoadStore.lean: the meanings of the
loads and stores (41_load_store_transfer.md R261 to R267).
Each is the instruction's bus sequence, performed; the sequence starts once the operand bytes have been
fetched. -/

namespace Sys2Proof.Machine

/-- LDA (zero page,X), opcode 0xA1 (R261, R210). -/
def seqLdaIzx (z : Byte) (r : Regs) : List Micro := readSeq (eaIzx z r) (.load .a)

/-- The meaning of LDA (zero page,X) (R261). -/
def execLdaIzx (z : Byte) (s : State) : Host.Outcome State Fault Refusal :=
  meaning (seqLdaIzx z s.regs) s

/-- LDA zero page, opcode 0xA5 (R261, R210). -/
def seqLdaZp (z : Byte) : List Micro := readSeq (eaZp z) (.load .a)

/-- The meaning of LDA zero page (R261). -/
def execLdaZp (z : Byte) (s : State) : Host.Outcome State Fault Refusal := meaning (seqLdaZp z) s

/-- LDA immediate, opcode 0xA9 (R261, R210). -/
def seqLdaImm (v : Byte) : List Micro := immSeq v (.load .a)

/-- The meaning of LDA immediate (R261). -/
def execLdaImm (v : Byte) (s : State) : Host.Outcome State Fault Refusal := meaning (seqLdaImm v) s

/-- LDA absolute, opcode 0xAD (R261, R210). -/
def seqLdaAbs (a : Addr) : List Micro := readSeq (eaAbs a) (.load .a)

/-- The meaning of LDA absolute (R261). -/
def execLdaAbs (a : Addr) (s : State) : Host.Outcome State Fault Refusal := meaning (seqLdaAbs a) s

/-- LDA (zero page),Y, opcode 0xB1 (R261, R210). -/
def seqLdaIzy (z : Byte) (r : Regs) : List Micro := readSeq (eaIzy false z r) (.load .a)

/-- The meaning of LDA (zero page),Y (R261). -/
def execLdaIzy (z : Byte) (s : State) : Host.Outcome State Fault Refusal :=
  meaning (seqLdaIzy z s.regs) s

/-- LDA (zero page), opcode 0xB2 (R261, R210). -/
def seqLdaIzp (z : Byte) : List Micro := readSeq (eaIzp z) (.load .a)

/-- The meaning of LDA (zero page) (R261). -/
def execLdaIzp (z : Byte) (s : State) : Host.Outcome State Fault Refusal := meaning (seqLdaIzp z) s

/-- LDA zero page,X, opcode 0xB5 (R261, R210). -/
def seqLdaZpx (z : Byte) (r : Regs) : List Micro := readSeq (eaZpIndexed z r.x r) (.load .a)

/-- The meaning of LDA zero page,X (R261). -/
def execLdaZpx (z : Byte) (s : State) : Host.Outcome State Fault Refusal :=
  meaning (seqLdaZpx z s.regs) s

/-- LDA absolute,Y, opcode 0xB9 (R261, R210). -/
def seqLdaAby (a : Addr) (r : Regs) : List Micro := readSeq (eaAbsIndexed false a r.y r) (.load .a)

/-- The meaning of LDA absolute,Y (R261). -/
def execLdaAby (a : Addr) (s : State) : Host.Outcome State Fault Refusal :=
  meaning (seqLdaAby a s.regs) s

/-- LDA absolute,X, opcode 0xBD (R261, R210). -/
def seqLdaAbx (a : Addr) (r : Regs) : List Micro := readSeq (eaAbsIndexed false a r.x r) (.load .a)

/-- The meaning of LDA absolute,X (R261). -/
def execLdaAbx (a : Addr) (s : State) : Host.Outcome State Fault Refusal :=
  meaning (seqLdaAbx a s.regs) s

/-- LDX immediate, opcode 0xA2 (R262, R210). -/
def seqLdxImm (v : Byte) : List Micro := immSeq v (.load .x)

/-- The meaning of LDX immediate (R262). -/
def execLdxImm (v : Byte) (s : State) : Host.Outcome State Fault Refusal := meaning (seqLdxImm v) s

/-- LDX zero page, opcode 0xA6 (R262, R210). -/
def seqLdxZp (z : Byte) : List Micro := readSeq (eaZp z) (.load .x)

/-- The meaning of LDX zero page (R262). -/
def execLdxZp (z : Byte) (s : State) : Host.Outcome State Fault Refusal := meaning (seqLdxZp z) s

/-- LDX absolute, opcode 0xAE (R262, R210). -/
def seqLdxAbs (a : Addr) : List Micro := readSeq (eaAbs a) (.load .x)

/-- The meaning of LDX absolute (R262). -/
def execLdxAbs (a : Addr) (s : State) : Host.Outcome State Fault Refusal := meaning (seqLdxAbs a) s

/-- LDX zero page,Y, opcode 0xB6 (R262, R210). -/
def seqLdxZpy (z : Byte) (r : Regs) : List Micro := readSeq (eaZpIndexed z r.y r) (.load .x)

/-- The meaning of LDX zero page,Y (R262). -/
def execLdxZpy (z : Byte) (s : State) : Host.Outcome State Fault Refusal :=
  meaning (seqLdxZpy z s.regs) s

/-- LDX absolute,Y, opcode 0xBE (R262, R210). -/
def seqLdxAby (a : Addr) (r : Regs) : List Micro := readSeq (eaAbsIndexed false a r.y r) (.load .x)

/-- The meaning of LDX absolute,Y (R262). -/
def execLdxAby (a : Addr) (s : State) : Host.Outcome State Fault Refusal :=
  meaning (seqLdxAby a s.regs) s

/-- LDY immediate, opcode 0xA0 (R263, R210). -/
def seqLdyImm (v : Byte) : List Micro := immSeq v (.load .y)

/-- The meaning of LDY immediate (R263). -/
def execLdyImm (v : Byte) (s : State) : Host.Outcome State Fault Refusal := meaning (seqLdyImm v) s

/-- LDY zero page, opcode 0xA4 (R263, R210). -/
def seqLdyZp (z : Byte) : List Micro := readSeq (eaZp z) (.load .y)

/-- The meaning of LDY zero page (R263). -/
def execLdyZp (z : Byte) (s : State) : Host.Outcome State Fault Refusal := meaning (seqLdyZp z) s

/-- LDY absolute, opcode 0xAC (R263, R210). -/
def seqLdyAbs (a : Addr) : List Micro := readSeq (eaAbs a) (.load .y)

/-- The meaning of LDY absolute (R263). -/
def execLdyAbs (a : Addr) (s : State) : Host.Outcome State Fault Refusal := meaning (seqLdyAbs a) s

/-- LDY zero page,X, opcode 0xB4 (R263, R210). -/
def seqLdyZpx (z : Byte) (r : Regs) : List Micro := readSeq (eaZpIndexed z r.x r) (.load .y)

/-- The meaning of LDY zero page,X (R263). -/
def execLdyZpx (z : Byte) (s : State) : Host.Outcome State Fault Refusal :=
  meaning (seqLdyZpx z s.regs) s

/-- LDY absolute,X, opcode 0xBC (R263, R210). -/
def seqLdyAbx (a : Addr) (r : Regs) : List Micro := readSeq (eaAbsIndexed false a r.x r) (.load .y)

/-- The meaning of LDY absolute,X (R263). -/
def execLdyAbx (a : Addr) (s : State) : Host.Outcome State Fault Refusal :=
  meaning (seqLdyAbx a s.regs) s

/-- STA (zero page,X), opcode 0x81 (R264, R211). -/
def seqStaIzx (z : Byte) (r : Regs) : List Micro := writeSeq (eaIzx z r) r.a

/-- The meaning of STA (zero page,X) (R264). -/
def execStaIzx (z : Byte) (s : State) : Host.Outcome State Fault Refusal :=
  meaning (seqStaIzx z s.regs) s

/-- STA zero page, opcode 0x85 (R264, R211). -/
def seqStaZp (z : Byte) (r : Regs) : List Micro := writeSeq (eaZp z) r.a

/-- The meaning of STA zero page (R264). -/
def execStaZp (z : Byte) (s : State) : Host.Outcome State Fault Refusal :=
  meaning (seqStaZp z s.regs) s

/-- STA absolute, opcode 0x8D (R264, R211). -/
def seqStaAbs (a : Addr) (r : Regs) : List Micro := writeSeq (eaAbs a) r.a

/-- The meaning of STA absolute (R264). -/
def execStaAbs (a : Addr) (s : State) : Host.Outcome State Fault Refusal :=
  meaning (seqStaAbs a s.regs) s

/-- STA (zero page),Y, opcode 0x91 (R264, R211). -/
def seqStaIzy (z : Byte) (r : Regs) : List Micro := writeSeq (eaIzy true z r) r.a

/-- The meaning of STA (zero page),Y (R264). -/
def execStaIzy (z : Byte) (s : State) : Host.Outcome State Fault Refusal :=
  meaning (seqStaIzy z s.regs) s

/-- STA (zero page), opcode 0x92 (R264, R211). -/
def seqStaIzp (z : Byte) (r : Regs) : List Micro := writeSeq (eaIzp z) r.a

/-- The meaning of STA (zero page) (R264). -/
def execStaIzp (z : Byte) (s : State) : Host.Outcome State Fault Refusal :=
  meaning (seqStaIzp z s.regs) s

/-- STA zero page,X, opcode 0x95 (R264, R211). -/
def seqStaZpx (z : Byte) (r : Regs) : List Micro := writeSeq (eaZpIndexed z r.x r) r.a

/-- The meaning of STA zero page,X (R264). -/
def execStaZpx (z : Byte) (s : State) : Host.Outcome State Fault Refusal :=
  meaning (seqStaZpx z s.regs) s

/-- STA absolute,Y, opcode 0x99 (R264, R211). -/
def seqStaAby (a : Addr) (r : Regs) : List Micro := writeSeq (eaAbsIndexed true a r.y r) r.a

/-- The meaning of STA absolute,Y (R264). -/
def execStaAby (a : Addr) (s : State) : Host.Outcome State Fault Refusal :=
  meaning (seqStaAby a s.regs) s

/-- STA absolute,X, opcode 0x9D (R264, R211). -/
def seqStaAbx (a : Addr) (r : Regs) : List Micro := writeSeq (eaAbsIndexed true a r.x r) r.a

/-- The meaning of STA absolute,X (R264). -/
def execStaAbx (a : Addr) (s : State) : Host.Outcome State Fault Refusal :=
  meaning (seqStaAbx a s.regs) s

/-- STX zero page, opcode 0x86 (R265, R211). -/
def seqStxZp (z : Byte) (r : Regs) : List Micro := writeSeq (eaZp z) r.x

/-- The meaning of STX zero page (R265). -/
def execStxZp (z : Byte) (s : State) : Host.Outcome State Fault Refusal :=
  meaning (seqStxZp z s.regs) s

/-- STX absolute, opcode 0x8E (R265, R211). -/
def seqStxAbs (a : Addr) (r : Regs) : List Micro := writeSeq (eaAbs a) r.x

/-- The meaning of STX absolute (R265). -/
def execStxAbs (a : Addr) (s : State) : Host.Outcome State Fault Refusal :=
  meaning (seqStxAbs a s.regs) s

/-- STX zero page,Y, opcode 0x96 (R265, R211). -/
def seqStxZpy (z : Byte) (r : Regs) : List Micro := writeSeq (eaZpIndexed z r.y r) r.x

/-- The meaning of STX zero page,Y (R265). -/
def execStxZpy (z : Byte) (s : State) : Host.Outcome State Fault Refusal :=
  meaning (seqStxZpy z s.regs) s

/-- STY zero page, opcode 0x84 (R266, R211). -/
def seqStyZp (z : Byte) (r : Regs) : List Micro := writeSeq (eaZp z) r.y

/-- The meaning of STY zero page (R266). -/
def execStyZp (z : Byte) (s : State) : Host.Outcome State Fault Refusal :=
  meaning (seqStyZp z s.regs) s

/-- STY absolute, opcode 0x8C (R266, R211). -/
def seqStyAbs (a : Addr) (r : Regs) : List Micro := writeSeq (eaAbs a) r.y

/-- The meaning of STY absolute (R266). -/
def execStyAbs (a : Addr) (s : State) : Host.Outcome State Fault Refusal :=
  meaning (seqStyAbs a s.regs) s

/-- STY zero page,X, opcode 0x94 (R266, R211). -/
def seqStyZpx (z : Byte) (r : Regs) : List Micro := writeSeq (eaZpIndexed z r.x r) r.y

/-- The meaning of STY zero page,X (R266). -/
def execStyZpx (z : Byte) (s : State) : Host.Outcome State Fault Refusal :=
  meaning (seqStyZpx z s.regs) s

/-- STZ zero page, opcode 0x64 (R267, R211). -/
def seqStzZp (z : Byte) : List Micro := writeSeq (eaZp z) 0

/-- The meaning of STZ zero page (R267). -/
def execStzZp (z : Byte) (s : State) : Host.Outcome State Fault Refusal := meaning (seqStzZp z) s

/-- STZ zero page,X, opcode 0x74 (R267, R211). -/
def seqStzZpx (z : Byte) (r : Regs) : List Micro := writeSeq (eaZpIndexed z r.x r) 0

/-- The meaning of STZ zero page,X (R267). -/
def execStzZpx (z : Byte) (s : State) : Host.Outcome State Fault Refusal :=
  meaning (seqStzZpx z s.regs) s

/-- STZ absolute, opcode 0x9C (R267, R211). -/
def seqStzAbs (a : Addr) : List Micro := writeSeq (eaAbs a) 0

/-- The meaning of STZ absolute (R267). -/
def execStzAbs (a : Addr) (s : State) : Host.Outcome State Fault Refusal := meaning (seqStzAbs a) s

/-- STZ absolute,X, opcode 0x9E (R267, R211). -/
def seqStzAbx (a : Addr) (r : Regs) : List Micro := writeSeq (eaAbsIndexed true a r.x r) 0

/-- The meaning of STZ absolute,X (R267). -/
def execStzAbx (a : Addr) (s : State) : Host.Outcome State Fault Refusal :=
  meaning (seqStzAbx a s.regs) s

end Sys2Proof.Machine
end

