-- ==== Sys2Proof/Machine/ShiftModify.lean ====
section
/-! DEFINITION. Machine/ShiftModify.lean: the meanings of the
read-modify-write instructions (42_alu.md R315, R316; 43_shift_rmw.md R351 to R356).
Each is the instruction's bus sequence, performed; the sequence starts once the operand bytes have been
fetched. -/

namespace Sys2Proof.Machine

/-- INC accumulator, opcode 0x1A (R315, R212). -/
def seqIncAcc : List Micro := impliedSeq (.rmwA .inc)

/-- The meaning of INC accumulator (R315). -/
def execIncAcc (s : State) : Host.Outcome State Fault Refusal := meaning seqIncAcc s

/-- INC zero page, opcode 0xE6 (R315, R212). -/
def seqIncZp (z : Byte) : List Micro := rmwSeq (eaZp z) .inc

/-- The meaning of INC zero page (R315). -/
def execIncZp (z : Byte) (s : State) : Host.Outcome State Fault Refusal := meaning (seqIncZp z) s

/-- INC absolute, opcode 0xEE (R315, R212). -/
def seqIncAbs (a : Addr) : List Micro := rmwSeq (eaAbs a) .inc

/-- The meaning of INC absolute (R315). -/
def execIncAbs (a : Addr) (s : State) : Host.Outcome State Fault Refusal := meaning (seqIncAbs a) s

/-- INC zero page,X, opcode 0xF6 (R315, R212). -/
def seqIncZpx (z : Byte) (r : Regs) : List Micro := rmwSeq (eaZpIndexed z r.x r) .inc

/-- The meaning of INC zero page,X (R315). -/
def execIncZpx (z : Byte) (s : State) : Host.Outcome State Fault Refusal :=
  meaning (seqIncZpx z s.regs) s

/-- INC absolute,X, opcode 0xFE (R315, R212). -/
def seqIncAbx (a : Addr) (r : Regs) : List Micro := rmwSeq (eaAbsIndexed true a r.x r) .inc

/-- The meaning of INC absolute,X (R315). -/
def execIncAbx (a : Addr) (s : State) : Host.Outcome State Fault Refusal :=
  meaning (seqIncAbx a s.regs) s

/-- DEC accumulator, opcode 0x3A (R316, R212). -/
def seqDecAcc : List Micro := impliedSeq (.rmwA .dec)

/-- The meaning of DEC accumulator (R316). -/
def execDecAcc (s : State) : Host.Outcome State Fault Refusal := meaning seqDecAcc s

/-- DEC zero page, opcode 0xC6 (R316, R212). -/
def seqDecZp (z : Byte) : List Micro := rmwSeq (eaZp z) .dec

/-- The meaning of DEC zero page (R316). -/
def execDecZp (z : Byte) (s : State) : Host.Outcome State Fault Refusal := meaning (seqDecZp z) s

/-- DEC absolute, opcode 0xCE (R316, R212). -/
def seqDecAbs (a : Addr) : List Micro := rmwSeq (eaAbs a) .dec

/-- The meaning of DEC absolute (R316). -/
def execDecAbs (a : Addr) (s : State) : Host.Outcome State Fault Refusal := meaning (seqDecAbs a) s

/-- DEC zero page,X, opcode 0xD6 (R316, R212). -/
def seqDecZpx (z : Byte) (r : Regs) : List Micro := rmwSeq (eaZpIndexed z r.x r) .dec

/-- The meaning of DEC zero page,X (R316). -/
def execDecZpx (z : Byte) (s : State) : Host.Outcome State Fault Refusal :=
  meaning (seqDecZpx z s.regs) s

/-- DEC absolute,X, opcode 0xDE (R316, R212). -/
def seqDecAbx (a : Addr) (r : Regs) : List Micro := rmwSeq (eaAbsIndexed true a r.x r) .dec

/-- The meaning of DEC absolute,X (R316). -/
def execDecAbx (a : Addr) (s : State) : Host.Outcome State Fault Refusal :=
  meaning (seqDecAbx a s.regs) s

/-- ASL zero page, opcode 0x06 (R351, R212). -/
def seqAslZp (z : Byte) : List Micro := rmwSeq (eaZp z) .asl

/-- The meaning of ASL zero page (R351). -/
def execAslZp (z : Byte) (s : State) : Host.Outcome State Fault Refusal := meaning (seqAslZp z) s

/-- ASL accumulator, opcode 0x0A (R351, R212). -/
def seqAslAcc : List Micro := impliedSeq (.rmwA .asl)

/-- The meaning of ASL accumulator (R351). -/
def execAslAcc (s : State) : Host.Outcome State Fault Refusal := meaning seqAslAcc s

/-- ASL absolute, opcode 0x0E (R351, R212). -/
def seqAslAbs (a : Addr) : List Micro := rmwSeq (eaAbs a) .asl

/-- The meaning of ASL absolute (R351). -/
def execAslAbs (a : Addr) (s : State) : Host.Outcome State Fault Refusal := meaning (seqAslAbs a) s

/-- ASL zero page,X, opcode 0x16 (R351, R212). -/
def seqAslZpx (z : Byte) (r : Regs) : List Micro := rmwSeq (eaZpIndexed z r.x r) .asl

/-- The meaning of ASL zero page,X (R351). -/
def execAslZpx (z : Byte) (s : State) : Host.Outcome State Fault Refusal :=
  meaning (seqAslZpx z s.regs) s

/-- ASL absolute,X, opcode 0x1E (R351, R212). -/
def seqAslAbx (a : Addr) (r : Regs) : List Micro := rmwSeq (eaAbsIndexed false a r.x r) .asl

/-- The meaning of ASL absolute,X (R351). -/
def execAslAbx (a : Addr) (s : State) : Host.Outcome State Fault Refusal :=
  meaning (seqAslAbx a s.regs) s

/-- LSR zero page, opcode 0x46 (R352, R212). -/
def seqLsrZp (z : Byte) : List Micro := rmwSeq (eaZp z) .lsr

/-- The meaning of LSR zero page (R352). -/
def execLsrZp (z : Byte) (s : State) : Host.Outcome State Fault Refusal := meaning (seqLsrZp z) s

/-- LSR accumulator, opcode 0x4A (R352, R212). -/
def seqLsrAcc : List Micro := impliedSeq (.rmwA .lsr)

/-- The meaning of LSR accumulator (R352). -/
def execLsrAcc (s : State) : Host.Outcome State Fault Refusal := meaning seqLsrAcc s

/-- LSR absolute, opcode 0x4E (R352, R212). -/
def seqLsrAbs (a : Addr) : List Micro := rmwSeq (eaAbs a) .lsr

/-- The meaning of LSR absolute (R352). -/
def execLsrAbs (a : Addr) (s : State) : Host.Outcome State Fault Refusal := meaning (seqLsrAbs a) s

/-- LSR zero page,X, opcode 0x56 (R352, R212). -/
def seqLsrZpx (z : Byte) (r : Regs) : List Micro := rmwSeq (eaZpIndexed z r.x r) .lsr

/-- The meaning of LSR zero page,X (R352). -/
def execLsrZpx (z : Byte) (s : State) : Host.Outcome State Fault Refusal :=
  meaning (seqLsrZpx z s.regs) s

/-- LSR absolute,X, opcode 0x5E (R352, R212). -/
def seqLsrAbx (a : Addr) (r : Regs) : List Micro := rmwSeq (eaAbsIndexed false a r.x r) .lsr

/-- The meaning of LSR absolute,X (R352). -/
def execLsrAbx (a : Addr) (s : State) : Host.Outcome State Fault Refusal :=
  meaning (seqLsrAbx a s.regs) s

/-- ROL zero page, opcode 0x26 (R353, R212). -/
def seqRolZp (z : Byte) : List Micro := rmwSeq (eaZp z) .rol

/-- The meaning of ROL zero page (R353). -/
def execRolZp (z : Byte) (s : State) : Host.Outcome State Fault Refusal := meaning (seqRolZp z) s

/-- ROL accumulator, opcode 0x2A (R353, R212). -/
def seqRolAcc : List Micro := impliedSeq (.rmwA .rol)

/-- The meaning of ROL accumulator (R353). -/
def execRolAcc (s : State) : Host.Outcome State Fault Refusal := meaning seqRolAcc s

/-- ROL absolute, opcode 0x2E (R353, R212). -/
def seqRolAbs (a : Addr) : List Micro := rmwSeq (eaAbs a) .rol

/-- The meaning of ROL absolute (R353). -/
def execRolAbs (a : Addr) (s : State) : Host.Outcome State Fault Refusal := meaning (seqRolAbs a) s

/-- ROL zero page,X, opcode 0x36 (R353, R212). -/
def seqRolZpx (z : Byte) (r : Regs) : List Micro := rmwSeq (eaZpIndexed z r.x r) .rol

/-- The meaning of ROL zero page,X (R353). -/
def execRolZpx (z : Byte) (s : State) : Host.Outcome State Fault Refusal :=
  meaning (seqRolZpx z s.regs) s

/-- ROL absolute,X, opcode 0x3E (R353, R212). -/
def seqRolAbx (a : Addr) (r : Regs) : List Micro := rmwSeq (eaAbsIndexed false a r.x r) .rol

/-- The meaning of ROL absolute,X (R353). -/
def execRolAbx (a : Addr) (s : State) : Host.Outcome State Fault Refusal :=
  meaning (seqRolAbx a s.regs) s

/-- ROR zero page, opcode 0x66 (R354, R212). -/
def seqRorZp (z : Byte) : List Micro := rmwSeq (eaZp z) .ror

/-- The meaning of ROR zero page (R354). -/
def execRorZp (z : Byte) (s : State) : Host.Outcome State Fault Refusal := meaning (seqRorZp z) s

/-- ROR accumulator, opcode 0x6A (R354, R212). -/
def seqRorAcc : List Micro := impliedSeq (.rmwA .ror)

/-- The meaning of ROR accumulator (R354). -/
def execRorAcc (s : State) : Host.Outcome State Fault Refusal := meaning seqRorAcc s

/-- ROR absolute, opcode 0x6E (R354, R212). -/
def seqRorAbs (a : Addr) : List Micro := rmwSeq (eaAbs a) .ror

/-- The meaning of ROR absolute (R354). -/
def execRorAbs (a : Addr) (s : State) : Host.Outcome State Fault Refusal := meaning (seqRorAbs a) s

/-- ROR zero page,X, opcode 0x76 (R354, R212). -/
def seqRorZpx (z : Byte) (r : Regs) : List Micro := rmwSeq (eaZpIndexed z r.x r) .ror

/-- The meaning of ROR zero page,X (R354). -/
def execRorZpx (z : Byte) (s : State) : Host.Outcome State Fault Refusal :=
  meaning (seqRorZpx z s.regs) s

/-- ROR absolute,X, opcode 0x7E (R354, R212). -/
def seqRorAbx (a : Addr) (r : Regs) : List Micro := rmwSeq (eaAbsIndexed false a r.x r) .ror

/-- The meaning of ROR absolute,X (R354). -/
def execRorAbx (a : Addr) (s : State) : Host.Outcome State Fault Refusal :=
  meaning (seqRorAbx a s.regs) s

/-- TSB zero page, opcode 0x04 (R355, R212). -/
def seqTsbZp (z : Byte) : List Micro := rmwSeq (eaZp z) .tsb

/-- The meaning of TSB zero page (R355). -/
def execTsbZp (z : Byte) (s : State) : Host.Outcome State Fault Refusal := meaning (seqTsbZp z) s

/-- TSB absolute, opcode 0x0C (R355, R212). -/
def seqTsbAbs (a : Addr) : List Micro := rmwSeq (eaAbs a) .tsb

/-- The meaning of TSB absolute (R355). -/
def execTsbAbs (a : Addr) (s : State) : Host.Outcome State Fault Refusal := meaning (seqTsbAbs a) s

/-- TRB zero page, opcode 0x14 (R356, R212). -/
def seqTrbZp (z : Byte) : List Micro := rmwSeq (eaZp z) .trb

/-- The meaning of TRB zero page (R356). -/
def execTrbZp (z : Byte) (s : State) : Host.Outcome State Fault Refusal := meaning (seqTrbZp z) s

/-- TRB absolute, opcode 0x1C (R356, R212). -/
def seqTrbAbs (a : Addr) : List Micro := rmwSeq (eaAbs a) .trb

/-- The meaning of TRB absolute (R356). -/
def execTrbAbs (a : Addr) (s : State) : Host.Outcome State Fault Refusal := meaning (seqTrbAbs a) s

end Sys2Proof.Machine
end

