-- ==== Sys2Proof/Machine/TransferStack.lean ====
section
/-! DEFINITION. Machine/TransferStack.lean: the meanings of the
register transfers and the stack (41_load_store_transfer.md R268 to R281).
Each is the instruction's bus sequence, performed; the sequence starts once the operand bytes have been
fetched. -/

namespace Sys2Proof.Machine

/-- TAX, opcode 0xAA (R268, R213). -/
def seqTax : List Micro := impliedSeq (.move .a .x)

/-- The meaning of TAX (R268). -/
def execTax (s : State) : Host.Outcome State Fault Refusal := meaning seqTax s

/-- TAY, opcode 0xA8 (R269, R213). -/
def seqTay : List Micro := impliedSeq (.move .a .y)

/-- The meaning of TAY (R269). -/
def execTay (s : State) : Host.Outcome State Fault Refusal := meaning seqTay s

/-- TXA, opcode 0x8A (R270, R213). -/
def seqTxa : List Micro := impliedSeq (.move .x .a)

/-- The meaning of TXA (R270). -/
def execTxa (s : State) : Host.Outcome State Fault Refusal := meaning seqTxa s

/-- TYA, opcode 0x98 (R271, R213). -/
def seqTya : List Micro := impliedSeq (.move .y .a)

/-- The meaning of TYA (R271). -/
def execTya (s : State) : Host.Outcome State Fault Refusal := meaning seqTya s

/-- TSX, opcode 0xBA (R272, R213). -/
def seqTsx : List Micro := impliedSeq .tsx

/-- The meaning of TSX (R272). -/
def execTsx (s : State) : Host.Outcome State Fault Refusal := meaning seqTsx s

/-- TXS, opcode 0x9A (R273, R213). -/
def seqTxs : List Micro := impliedSeq .txs

/-- The meaning of TXS (R273). -/
def execTxs (s : State) : Host.Outcome State Fault Refusal := meaning seqTxs s

/-- PHA, opcode 0x48 (R274, R213). -/
def seqPha (r : Regs) : List Micro := pushSeq r.a

/-- The meaning of PHA (R274). -/
def execPha (s : State) : Host.Outcome State Fault Refusal := meaning (seqPha s.regs) s

/-- PHP, opcode 0x08 (R275, R213). -/
def seqPhp (r : Regs) : List Micro := pushSeq (r.p.toByte true)

/-- The meaning of PHP (R275). -/
def execPhp (s : State) : Host.Outcome State Fault Refusal := meaning (seqPhp s.regs) s

/-- PHX, opcode 0xDA (R276, R213). -/
def seqPhx (r : Regs) : List Micro := pushSeq r.x

/-- The meaning of PHX (R276). -/
def execPhx (s : State) : Host.Outcome State Fault Refusal := meaning (seqPhx s.regs) s

/-- PHY, opcode 0x5A (R277, R213). -/
def seqPhy (r : Regs) : List Micro := pushSeq r.y

/-- The meaning of PHY (R277). -/
def execPhy (s : State) : Host.Outcome State Fault Refusal := meaning (seqPhy s.regs) s

/-- PLA, opcode 0x68 (R278, R213). -/
def seqPla : List Micro := pullSeq (.load .a)

/-- The meaning of PLA (R278). -/
def execPla (s : State) : Host.Outcome State Fault Refusal := meaning seqPla s

/-- PLP, opcode 0x28 (R279, R213). -/
def seqPlp : List Micro := pullSeq .pullFlags

/-- The meaning of PLP (R279). -/
def execPlp (s : State) : Host.Outcome State Fault Refusal := meaning seqPlp s

/-- PLX, opcode 0xFA (R280, R213). -/
def seqPlx : List Micro := pullSeq (.load .x)

/-- The meaning of PLX (R280). -/
def execPlx (s : State) : Host.Outcome State Fault Refusal := meaning seqPlx s

/-- PLY, opcode 0x7A (R281, R213). -/
def seqPly : List Micro := pullSeq (.load .y)

/-- The meaning of PLY (R281). -/
def execPly (s : State) : Host.Outcome State Fault Refusal := meaning seqPly s

end Sys2Proof.Machine
end

