-- ==== Sys2Proof/Syntax.lean ====
section
/-! DEFINITION. Syntax.lean: the instructions, one constructor for each row of spec/opcode_table.json, in the
order of the opcode bytes with the hiccups last (30_encoding.md R167). An operand is a byte (`v` immediate, `z` zero-page
address, `nn` relative offset, `sig` break signature) or a 16-bit address `a` (R160, R161).

Suffixes name the operand form: Imm `#nn`, Zp `zz`, Zpx `zz,X`, Zpy `zz,Y`, Abs `hhll`, Abx `hhll,X`, Aby
`hhll,Y`, Izx `(zz,X)`, Izy `(zz),Y`, Izp `(zz)`, Acc `A`, Ind `(hhll)`, Iax `(hhll,X)`. The NOPs other than
0xEA, and the hiccups (Hic), end with their opcode byte (R170, R169). -/

namespace Sys2Proof

/-- The instructions (R167). -/
inductive Instr where
  | brk (sig : Byte)
  | oraIzx (z : Byte)
  | nopImm02 (v : Byte)
  | tsbZp (z : Byte)
  | oraZp (z : Byte)
  | aslZp (z : Byte)
  | php
  | oraImm (v : Byte)
  | aslAcc
  | tsbAbs (a : Addr)
  | oraAbs (a : Addr)
  | aslAbs (a : Addr)
  | bpl (nn : Byte)
  | oraIzy (z : Byte)
  | oraIzp (z : Byte)
  | trbZp (z : Byte)
  | oraZpx (z : Byte)
  | aslZpx (z : Byte)
  | clc
  | oraAby (a : Addr)
  | incAcc
  | trbAbs (a : Addr)
  | oraAbx (a : Addr)
  | aslAbx (a : Addr)
  | jsr (a : Addr)
  | andIzx (z : Byte)
  | nopImm22 (v : Byte)
  | bitZp (z : Byte)
  | andZp (z : Byte)
  | rolZp (z : Byte)
  | plp
  | andImm (v : Byte)
  | rolAcc
  | bitAbs (a : Addr)
  | andAbs (a : Addr)
  | rolAbs (a : Addr)
  | bmi (nn : Byte)
  | andIzy (z : Byte)
  | andIzp (z : Byte)
  | bitZpx (z : Byte)
  | andZpx (z : Byte)
  | rolZpx (z : Byte)
  | sec
  | andAby (a : Addr)
  | decAcc
  | bitAbx (a : Addr)
  | andAbx (a : Addr)
  | rolAbx (a : Addr)
  | rti
  | eorIzx (z : Byte)
  | nopImm42 (v : Byte)
  | nopZp44 (z : Byte)
  | eorZp (z : Byte)
  | lsrZp (z : Byte)
  | pha
  | eorImm (v : Byte)
  | lsrAcc
  | jmpAbs (a : Addr)
  | eorAbs (a : Addr)
  | lsrAbs (a : Addr)
  | bvc (nn : Byte)
  | eorIzy (z : Byte)
  | eorIzp (z : Byte)
  | nopZpx54 (z : Byte)
  | eorZpx (z : Byte)
  | lsrZpx (z : Byte)
  | cli
  | eorAby (a : Addr)
  | phy
  | nopAbs5C (a : Addr)
  | eorAbx (a : Addr)
  | lsrAbx (a : Addr)
  | rts
  | adcIzx (z : Byte)
  | nopImm62 (v : Byte)
  | stzZp (z : Byte)
  | adcZp (z : Byte)
  | rorZp (z : Byte)
  | pla
  | adcImm (v : Byte)
  | rorAcc
  | jmpInd (a : Addr)
  | adcAbs (a : Addr)
  | rorAbs (a : Addr)
  | bvs (nn : Byte)
  | adcIzy (z : Byte)
  | adcIzp (z : Byte)
  | stzZpx (z : Byte)
  | adcZpx (z : Byte)
  | rorZpx (z : Byte)
  | sei
  | adcAby (a : Addr)
  | ply
  | jmpIax (a : Addr)
  | adcAbx (a : Addr)
  | rorAbx (a : Addr)
  | bra (nn : Byte)
  | staIzx (z : Byte)
  | nopImm82 (v : Byte)
  | styZp (z : Byte)
  | staZp (z : Byte)
  | stxZp (z : Byte)
  | dey
  | bitImm (v : Byte)
  | txa
  | styAbs (a : Addr)
  | staAbs (a : Addr)
  | stxAbs (a : Addr)
  | bcc (nn : Byte)
  | staIzy (z : Byte)
  | staIzp (z : Byte)
  | styZpx (z : Byte)
  | staZpx (z : Byte)
  | stxZpy (z : Byte)
  | tya
  | staAby (a : Addr)
  | txs
  | stzAbs (a : Addr)
  | staAbx (a : Addr)
  | stzAbx (a : Addr)
  | ldyImm (v : Byte)
  | ldaIzx (z : Byte)
  | ldxImm (v : Byte)
  | ldyZp (z : Byte)
  | ldaZp (z : Byte)
  | ldxZp (z : Byte)
  | tay
  | ldaImm (v : Byte)
  | tax
  | ldyAbs (a : Addr)
  | ldaAbs (a : Addr)
  | ldxAbs (a : Addr)
  | bcs (nn : Byte)
  | ldaIzy (z : Byte)
  | ldaIzp (z : Byte)
  | ldyZpx (z : Byte)
  | ldaZpx (z : Byte)
  | ldxZpy (z : Byte)
  | clv
  | ldaAby (a : Addr)
  | tsx
  | ldyAbx (a : Addr)
  | ldaAbx (a : Addr)
  | ldxAby (a : Addr)
  | cpyImm (v : Byte)
  | cmpIzx (z : Byte)
  | nopImmC2 (v : Byte)
  | cpyZp (z : Byte)
  | cmpZp (z : Byte)
  | decZp (z : Byte)
  | iny
  | cmpImm (v : Byte)
  | dex
  | cpyAbs (a : Addr)
  | cmpAbs (a : Addr)
  | decAbs (a : Addr)
  | bne (nn : Byte)
  | cmpIzy (z : Byte)
  | cmpIzp (z : Byte)
  | nopZpxD4 (z : Byte)
  | cmpZpx (z : Byte)
  | decZpx (z : Byte)
  | cld
  | cmpAby (a : Addr)
  | phx
  | nopAbsDC (a : Addr)
  | cmpAbx (a : Addr)
  | decAbx (a : Addr)
  | cpxImm (v : Byte)
  | sbcIzx (z : Byte)
  | nopImmE2 (v : Byte)
  | cpxZp (z : Byte)
  | sbcZp (z : Byte)
  | incZp (z : Byte)
  | inx
  | sbcImm (v : Byte)
  | nop
  | cpxAbs (a : Addr)
  | sbcAbs (a : Addr)
  | incAbs (a : Addr)
  | beq (nn : Byte)
  | sbcIzy (z : Byte)
  | sbcIzp (z : Byte)
  | nopZpxF4 (z : Byte)
  | sbcZpx (z : Byte)
  | incZpx (z : Byte)
  | sed
  | sbcAby (a : Addr)
  | plx
  | nopAbsFC (a : Addr)
  | sbcAbx (a : Addr)
  | incAbx (a : Addr)
  | nopHic03
  | nopHic07
  | nopHic0B
  | nopHic0F
  | nopHic13
  | nopHic17
  | nopHic1B
  | nopHic1F
  | nopHic23
  | nopHic27
  | nopHic2B
  | nopHic2F
  | nopHic33
  | nopHic37
  | nopHic3B
  | nopHic3F
  | nopHic43
  | nopHic47
  | nopHic4B
  | nopHic4F
  | nopHic53
  | nopHic57
  | nopHic5B
  | nopHic5F
  | nopHic63
  | nopHic67
  | nopHic6B
  | nopHic6F
  | nopHic73
  | nopHic77
  | nopHic7B
  | nopHic7F
  | nopHic83
  | nopHic87
  | nopHic8B
  | nopHic8F
  | nopHic93
  | nopHic97
  | nopHic9B
  | nopHic9F
  | nopHicA3
  | nopHicA7
  | nopHicAB
  | nopHicAF
  | nopHicB3
  | nopHicB7
  | nopHicBB
  | nopHicBF
  | nopHicC3
  | nopHicC7
  | nopHicCB
  | nopHicCF
  | nopHicD3
  | nopHicD7
  | nopHicDB
  | nopHicDF
  | nopHicE3
  | nopHicE7
  | nopHicEB
  | nopHicEF
  | nopHicF3
  | nopHicF7
  | nopHicFB
  | nopHicFF
deriving DecidableEq, Repr

end Sys2Proof
end

