-- ==== Sys2Proof/Machine/Dispatch.lean ====
section
/-! DEFINITION. Machine/Dispatch.lean: the meaning of every instruction, one arm for each constructor
(40_cpu_machine.md R204). -/

namespace Sys2Proof.Machine

def exec (i : Instr) (s : State) : Host.Outcome State Fault Refusal :=
  match i with
  | .brk sig => Sys2Proof.Machine.execBrk sig s
  | .oraIzx z => Sys2Proof.Machine.execOraIzx z s
  | .nopImm02 v => Sys2Proof.Machine.execNopImm02 v s
  | .nopHic03 => Sys2Proof.Machine.execNopHic03 s
  | .tsbZp z => Sys2Proof.Machine.execTsbZp z s
  | .oraZp z => Sys2Proof.Machine.execOraZp z s
  | .aslZp z => Sys2Proof.Machine.execAslZp z s
  | .nopHic07 => Sys2Proof.Machine.execNopHic07 s
  | .php => Sys2Proof.Machine.execPhp s
  | .oraImm v => Sys2Proof.Machine.execOraImm v s
  | .aslAcc => Sys2Proof.Machine.execAslAcc s
  | .nopHic0B => Sys2Proof.Machine.execNopHic0B s
  | .tsbAbs a => Sys2Proof.Machine.execTsbAbs a s
  | .oraAbs a => Sys2Proof.Machine.execOraAbs a s
  | .aslAbs a => Sys2Proof.Machine.execAslAbs a s
  | .nopHic0F => Sys2Proof.Machine.execNopHic0F s
  | .bpl nn => Sys2Proof.Machine.execBpl nn s
  | .oraIzy z => Sys2Proof.Machine.execOraIzy z s
  | .oraIzp z => Sys2Proof.Machine.execOraIzp z s
  | .nopHic13 => Sys2Proof.Machine.execNopHic13 s
  | .trbZp z => Sys2Proof.Machine.execTrbZp z s
  | .oraZpx z => Sys2Proof.Machine.execOraZpx z s
  | .aslZpx z => Sys2Proof.Machine.execAslZpx z s
  | .nopHic17 => Sys2Proof.Machine.execNopHic17 s
  | .clc => Sys2Proof.Machine.execClc s
  | .oraAby a => Sys2Proof.Machine.execOraAby a s
  | .incAcc => Sys2Proof.Machine.execIncAcc s
  | .nopHic1B => Sys2Proof.Machine.execNopHic1B s
  | .trbAbs a => Sys2Proof.Machine.execTrbAbs a s
  | .oraAbx a => Sys2Proof.Machine.execOraAbx a s
  | .aslAbx a => Sys2Proof.Machine.execAslAbx a s
  | .nopHic1F => Sys2Proof.Machine.execNopHic1F s
  | .jsr a => Sys2Proof.Machine.execJsr a s
  | .andIzx z => Sys2Proof.Machine.execAndIzx z s
  | .nopImm22 v => Sys2Proof.Machine.execNopImm22 v s
  | .nopHic23 => Sys2Proof.Machine.execNopHic23 s
  | .bitZp z => Sys2Proof.Machine.execBitZp z s
  | .andZp z => Sys2Proof.Machine.execAndZp z s
  | .rolZp z => Sys2Proof.Machine.execRolZp z s
  | .nopHic27 => Sys2Proof.Machine.execNopHic27 s
  | .plp => Sys2Proof.Machine.execPlp s
  | .andImm v => Sys2Proof.Machine.execAndImm v s
  | .rolAcc => Sys2Proof.Machine.execRolAcc s
  | .nopHic2B => Sys2Proof.Machine.execNopHic2B s
  | .bitAbs a => Sys2Proof.Machine.execBitAbs a s
  | .andAbs a => Sys2Proof.Machine.execAndAbs a s
  | .rolAbs a => Sys2Proof.Machine.execRolAbs a s
  | .nopHic2F => Sys2Proof.Machine.execNopHic2F s
  | .bmi nn => Sys2Proof.Machine.execBmi nn s
  | .andIzy z => Sys2Proof.Machine.execAndIzy z s
  | .andIzp z => Sys2Proof.Machine.execAndIzp z s
  | .nopHic33 => Sys2Proof.Machine.execNopHic33 s
  | .bitZpx z => Sys2Proof.Machine.execBitZpx z s
  | .andZpx z => Sys2Proof.Machine.execAndZpx z s
  | .rolZpx z => Sys2Proof.Machine.execRolZpx z s
  | .nopHic37 => Sys2Proof.Machine.execNopHic37 s
  | .sec => Sys2Proof.Machine.execSec s
  | .andAby a => Sys2Proof.Machine.execAndAby a s
  | .decAcc => Sys2Proof.Machine.execDecAcc s
  | .nopHic3B => Sys2Proof.Machine.execNopHic3B s
  | .bitAbx a => Sys2Proof.Machine.execBitAbx a s
  | .andAbx a => Sys2Proof.Machine.execAndAbx a s
  | .rolAbx a => Sys2Proof.Machine.execRolAbx a s
  | .nopHic3F => Sys2Proof.Machine.execNopHic3F s
  | .rti => Sys2Proof.Machine.execRti s
  | .eorIzx z => Sys2Proof.Machine.execEorIzx z s
  | .nopImm42 v => Sys2Proof.Machine.execNopImm42 v s
  | .nopHic43 => Sys2Proof.Machine.execNopHic43 s
  | .nopZp44 z => Sys2Proof.Machine.execNopZp44 z s
  | .eorZp z => Sys2Proof.Machine.execEorZp z s
  | .lsrZp z => Sys2Proof.Machine.execLsrZp z s
  | .nopHic47 => Sys2Proof.Machine.execNopHic47 s
  | .pha => Sys2Proof.Machine.execPha s
  | .eorImm v => Sys2Proof.Machine.execEorImm v s
  | .lsrAcc => Sys2Proof.Machine.execLsrAcc s
  | .nopHic4B => Sys2Proof.Machine.execNopHic4B s
  | .jmpAbs a => Sys2Proof.Machine.execJmpAbs a s
  | .eorAbs a => Sys2Proof.Machine.execEorAbs a s
  | .lsrAbs a => Sys2Proof.Machine.execLsrAbs a s
  | .nopHic4F => Sys2Proof.Machine.execNopHic4F s
  | .bvc nn => Sys2Proof.Machine.execBvc nn s
  | .eorIzy z => Sys2Proof.Machine.execEorIzy z s
  | .eorIzp z => Sys2Proof.Machine.execEorIzp z s
  | .nopHic53 => Sys2Proof.Machine.execNopHic53 s
  | .nopZpx54 z => Sys2Proof.Machine.execNopZpx54 z s
  | .eorZpx z => Sys2Proof.Machine.execEorZpx z s
  | .lsrZpx z => Sys2Proof.Machine.execLsrZpx z s
  | .nopHic57 => Sys2Proof.Machine.execNopHic57 s
  | .cli => Sys2Proof.Machine.execCli s
  | .eorAby a => Sys2Proof.Machine.execEorAby a s
  | .phy => Sys2Proof.Machine.execPhy s
  | .nopHic5B => Sys2Proof.Machine.execNopHic5B s
  | .nopAbs5C a => Sys2Proof.Machine.execNopAbs5C a s
  | .eorAbx a => Sys2Proof.Machine.execEorAbx a s
  | .lsrAbx a => Sys2Proof.Machine.execLsrAbx a s
  | .nopHic5F => Sys2Proof.Machine.execNopHic5F s
  | .rts => Sys2Proof.Machine.execRts s
  | .adcIzx z => Sys2Proof.Machine.execAdcIzx z s
  | .nopImm62 v => Sys2Proof.Machine.execNopImm62 v s
  | .nopHic63 => Sys2Proof.Machine.execNopHic63 s
  | .stzZp z => Sys2Proof.Machine.execStzZp z s
  | .adcZp z => Sys2Proof.Machine.execAdcZp z s
  | .rorZp z => Sys2Proof.Machine.execRorZp z s
  | .nopHic67 => Sys2Proof.Machine.execNopHic67 s
  | .pla => Sys2Proof.Machine.execPla s
  | .adcImm v => Sys2Proof.Machine.execAdcImm v s
  | .rorAcc => Sys2Proof.Machine.execRorAcc s
  | .nopHic6B => Sys2Proof.Machine.execNopHic6B s
  | .jmpInd a => Sys2Proof.Machine.execJmpInd a s
  | .adcAbs a => Sys2Proof.Machine.execAdcAbs a s
  | .rorAbs a => Sys2Proof.Machine.execRorAbs a s
  | .nopHic6F => Sys2Proof.Machine.execNopHic6F s
  | .bvs nn => Sys2Proof.Machine.execBvs nn s
  | .adcIzy z => Sys2Proof.Machine.execAdcIzy z s
  | .adcIzp z => Sys2Proof.Machine.execAdcIzp z s
  | .nopHic73 => Sys2Proof.Machine.execNopHic73 s
  | .stzZpx z => Sys2Proof.Machine.execStzZpx z s
  | .adcZpx z => Sys2Proof.Machine.execAdcZpx z s
  | .rorZpx z => Sys2Proof.Machine.execRorZpx z s
  | .nopHic77 => Sys2Proof.Machine.execNopHic77 s
  | .sei => Sys2Proof.Machine.execSei s
  | .adcAby a => Sys2Proof.Machine.execAdcAby a s
  | .ply => Sys2Proof.Machine.execPly s
  | .nopHic7B => Sys2Proof.Machine.execNopHic7B s
  | .jmpIax a => Sys2Proof.Machine.execJmpIax a s
  | .adcAbx a => Sys2Proof.Machine.execAdcAbx a s
  | .rorAbx a => Sys2Proof.Machine.execRorAbx a s
  | .nopHic7F => Sys2Proof.Machine.execNopHic7F s
  | .bra nn => Sys2Proof.Machine.execBra nn s
  | .staIzx z => Sys2Proof.Machine.execStaIzx z s
  | .nopImm82 v => Sys2Proof.Machine.execNopImm82 v s
  | .nopHic83 => Sys2Proof.Machine.execNopHic83 s
  | .styZp z => Sys2Proof.Machine.execStyZp z s
  | .staZp z => Sys2Proof.Machine.execStaZp z s
  | .stxZp z => Sys2Proof.Machine.execStxZp z s
  | .nopHic87 => Sys2Proof.Machine.execNopHic87 s
  | .dey => Sys2Proof.Machine.execDey s
  | .bitImm v => Sys2Proof.Machine.execBitImm v s
  | .txa => Sys2Proof.Machine.execTxa s
  | .nopHic8B => Sys2Proof.Machine.execNopHic8B s
  | .styAbs a => Sys2Proof.Machine.execStyAbs a s
  | .staAbs a => Sys2Proof.Machine.execStaAbs a s
  | .stxAbs a => Sys2Proof.Machine.execStxAbs a s
  | .nopHic8F => Sys2Proof.Machine.execNopHic8F s
  | .bcc nn => Sys2Proof.Machine.execBcc nn s
  | .staIzy z => Sys2Proof.Machine.execStaIzy z s
  | .staIzp z => Sys2Proof.Machine.execStaIzp z s
  | .nopHic93 => Sys2Proof.Machine.execNopHic93 s
  | .styZpx z => Sys2Proof.Machine.execStyZpx z s
  | .staZpx z => Sys2Proof.Machine.execStaZpx z s
  | .stxZpy z => Sys2Proof.Machine.execStxZpy z s
  | .nopHic97 => Sys2Proof.Machine.execNopHic97 s
  | .tya => Sys2Proof.Machine.execTya s
  | .staAby a => Sys2Proof.Machine.execStaAby a s
  | .txs => Sys2Proof.Machine.execTxs s
  | .nopHic9B => Sys2Proof.Machine.execNopHic9B s
  | .stzAbs a => Sys2Proof.Machine.execStzAbs a s
  | .staAbx a => Sys2Proof.Machine.execStaAbx a s
  | .stzAbx a => Sys2Proof.Machine.execStzAbx a s
  | .nopHic9F => Sys2Proof.Machine.execNopHic9F s
  | .ldyImm v => Sys2Proof.Machine.execLdyImm v s
  | .ldaIzx z => Sys2Proof.Machine.execLdaIzx z s
  | .ldxImm v => Sys2Proof.Machine.execLdxImm v s
  | .nopHicA3 => Sys2Proof.Machine.execNopHicA3 s
  | .ldyZp z => Sys2Proof.Machine.execLdyZp z s
  | .ldaZp z => Sys2Proof.Machine.execLdaZp z s
  | .ldxZp z => Sys2Proof.Machine.execLdxZp z s
  | .nopHicA7 => Sys2Proof.Machine.execNopHicA7 s
  | .tay => Sys2Proof.Machine.execTay s
  | .ldaImm v => Sys2Proof.Machine.execLdaImm v s
  | .tax => Sys2Proof.Machine.execTax s
  | .nopHicAB => Sys2Proof.Machine.execNopHicAB s
  | .ldyAbs a => Sys2Proof.Machine.execLdyAbs a s
  | .ldaAbs a => Sys2Proof.Machine.execLdaAbs a s
  | .ldxAbs a => Sys2Proof.Machine.execLdxAbs a s
  | .nopHicAF => Sys2Proof.Machine.execNopHicAF s
  | .bcs nn => Sys2Proof.Machine.execBcs nn s
  | .ldaIzy z => Sys2Proof.Machine.execLdaIzy z s
  | .ldaIzp z => Sys2Proof.Machine.execLdaIzp z s
  | .nopHicB3 => Sys2Proof.Machine.execNopHicB3 s
  | .ldyZpx z => Sys2Proof.Machine.execLdyZpx z s
  | .ldaZpx z => Sys2Proof.Machine.execLdaZpx z s
  | .ldxZpy z => Sys2Proof.Machine.execLdxZpy z s
  | .nopHicB7 => Sys2Proof.Machine.execNopHicB7 s
  | .clv => Sys2Proof.Machine.execClv s
  | .ldaAby a => Sys2Proof.Machine.execLdaAby a s
  | .tsx => Sys2Proof.Machine.execTsx s
  | .nopHicBB => Sys2Proof.Machine.execNopHicBB s
  | .ldyAbx a => Sys2Proof.Machine.execLdyAbx a s
  | .ldaAbx a => Sys2Proof.Machine.execLdaAbx a s
  | .ldxAby a => Sys2Proof.Machine.execLdxAby a s
  | .nopHicBF => Sys2Proof.Machine.execNopHicBF s
  | .cpyImm v => Sys2Proof.Machine.execCpyImm v s
  | .cmpIzx z => Sys2Proof.Machine.execCmpIzx z s
  | .nopImmC2 v => Sys2Proof.Machine.execNopImmC2 v s
  | .nopHicC3 => Sys2Proof.Machine.execNopHicC3 s
  | .cpyZp z => Sys2Proof.Machine.execCpyZp z s
  | .cmpZp z => Sys2Proof.Machine.execCmpZp z s
  | .decZp z => Sys2Proof.Machine.execDecZp z s
  | .nopHicC7 => Sys2Proof.Machine.execNopHicC7 s
  | .iny => Sys2Proof.Machine.execIny s
  | .cmpImm v => Sys2Proof.Machine.execCmpImm v s
  | .dex => Sys2Proof.Machine.execDex s
  | .nopHicCB => Sys2Proof.Machine.execNopHicCB s
  | .cpyAbs a => Sys2Proof.Machine.execCpyAbs a s
  | .cmpAbs a => Sys2Proof.Machine.execCmpAbs a s
  | .decAbs a => Sys2Proof.Machine.execDecAbs a s
  | .nopHicCF => Sys2Proof.Machine.execNopHicCF s
  | .bne nn => Sys2Proof.Machine.execBne nn s
  | .cmpIzy z => Sys2Proof.Machine.execCmpIzy z s
  | .cmpIzp z => Sys2Proof.Machine.execCmpIzp z s
  | .nopHicD3 => Sys2Proof.Machine.execNopHicD3 s
  | .nopZpxD4 z => Sys2Proof.Machine.execNopZpxD4 z s
  | .cmpZpx z => Sys2Proof.Machine.execCmpZpx z s
  | .decZpx z => Sys2Proof.Machine.execDecZpx z s
  | .nopHicD7 => Sys2Proof.Machine.execNopHicD7 s
  | .cld => Sys2Proof.Machine.execCld s
  | .cmpAby a => Sys2Proof.Machine.execCmpAby a s
  | .phx => Sys2Proof.Machine.execPhx s
  | .nopHicDB => Sys2Proof.Machine.execNopHicDB s
  | .nopAbsDC a => Sys2Proof.Machine.execNopAbsDC a s
  | .cmpAbx a => Sys2Proof.Machine.execCmpAbx a s
  | .decAbx a => Sys2Proof.Machine.execDecAbx a s
  | .nopHicDF => Sys2Proof.Machine.execNopHicDF s
  | .cpxImm v => Sys2Proof.Machine.execCpxImm v s
  | .sbcIzx z => Sys2Proof.Machine.execSbcIzx z s
  | .nopImmE2 v => Sys2Proof.Machine.execNopImmE2 v s
  | .nopHicE3 => Sys2Proof.Machine.execNopHicE3 s
  | .cpxZp z => Sys2Proof.Machine.execCpxZp z s
  | .sbcZp z => Sys2Proof.Machine.execSbcZp z s
  | .incZp z => Sys2Proof.Machine.execIncZp z s
  | .nopHicE7 => Sys2Proof.Machine.execNopHicE7 s
  | .inx => Sys2Proof.Machine.execInx s
  | .sbcImm v => Sys2Proof.Machine.execSbcImm v s
  | .nop => Sys2Proof.Machine.execNop s
  | .nopHicEB => Sys2Proof.Machine.execNopHicEB s
  | .cpxAbs a => Sys2Proof.Machine.execCpxAbs a s
  | .sbcAbs a => Sys2Proof.Machine.execSbcAbs a s
  | .incAbs a => Sys2Proof.Machine.execIncAbs a s
  | .nopHicEF => Sys2Proof.Machine.execNopHicEF s
  | .beq nn => Sys2Proof.Machine.execBeq nn s
  | .sbcIzy z => Sys2Proof.Machine.execSbcIzy z s
  | .sbcIzp z => Sys2Proof.Machine.execSbcIzp z s
  | .nopHicF3 => Sys2Proof.Machine.execNopHicF3 s
  | .nopZpxF4 z => Sys2Proof.Machine.execNopZpxF4 z s
  | .sbcZpx z => Sys2Proof.Machine.execSbcZpx z s
  | .incZpx z => Sys2Proof.Machine.execIncZpx z s
  | .nopHicF7 => Sys2Proof.Machine.execNopHicF7 s
  | .sed => Sys2Proof.Machine.execSed s
  | .sbcAby a => Sys2Proof.Machine.execSbcAby a s
  | .plx => Sys2Proof.Machine.execPlx s
  | .nopHicFB => Sys2Proof.Machine.execNopHicFB s
  | .nopAbsFC a => Sys2Proof.Machine.execNopAbsFC a s
  | .sbcAbx a => Sys2Proof.Machine.execSbcAbx a s
  | .incAbx a => Sys2Proof.Machine.execIncAbx a s
  | .nopHicFF => Sys2Proof.Machine.execNopHicFF s

end Sys2Proof.Machine
end

