-- ==== Sys2Proof/WellFormed.lean ====
section
/-! DEFINITION. WellFormed.lean: when a list of bytes is the encoding of one instruction (30_encoding.md
R160, R168).

Every value of an operand is encodable and every opcode byte is an instruction (R168), so every term of
`Instr` is well formed and no check on it is possible. What can be ill formed is a list of bytes: its
length must be the one its opcode byte fixes. The length is written here from the columns of the opcode
map alone, apart from the decoder. -/

namespace Sys2Proof

/-- The length in bytes that an opcode byte fixes (R160), by the columns of the map of R167. -/
def opLength (op : Byte) : Nat :=
  match op.toNat % 16 with
  | 0 => if op = 0x20 then 3 else if op = 0x40 || op = 0x60 then 1 else 2
  | 3 => 1
  | 7 => 1
  | 8 => 1
  | 9 => if op.toNat / 16 % 2 = 0 then 2 else 3
  | 10 => 1
  | 11 => 1
  | 12 => 3
  | 13 => 3
  | 14 => 3
  | 15 => 1
  | _ => 2

/-- Whether the bytes are exactly one instruction (R160). -/
def wellFormedBytes : List Byte → Bool
  | [] => false
  | op :: operands => operands.length + 1 == opLength op

end Sys2Proof
end

