-- ==== Sys2Proof/Decode.lean ====
section
/-! DEFINITION. Decode.lean: the decoder, total on any bytes, and the encoder (30_encoding.md R160, R167,
R168). The opcode byte alone fixes the instruction, its operand form and its length. -/

namespace Sys2Proof

open Sys2Proof.Machine (pair loByte hiByte)

/-- An instruction with its operand still to come: the formats F1, F2 and F3 (R160). -/
inductive OpForm where
  | f1 (i : Instr)
  | f2 (mk : Byte → Instr)
  | f3 (mk : Addr → Instr)

/-- Why bytes are not decoded. -/
inductive DecodeError where
  /-- There is no opcode byte. -/
  | noOpcode
  /-- An operand byte is missing. -/
  | missingOperand
deriving DecidableEq, Repr

/-- Row 0x of the opcode map, by column (R167). -/
def row0 : Nat → OpForm
  | 0 => .f2 .brk
  | 1 => .f2 .oraIzx
  | 2 => .f2 .nopImm02
  | 3 => .f1 .nopHic03
  | 4 => .f2 .tsbZp
  | 5 => .f2 .oraZp
  | 6 => .f2 .aslZp
  | 7 => .f1 .nopHic07
  | 8 => .f1 .php
  | 9 => .f2 .oraImm
  | 10 => .f1 .aslAcc
  | 11 => .f1 .nopHic0B
  | 12 => .f3 .tsbAbs
  | 13 => .f3 .oraAbs
  | 14 => .f3 .aslAbs
  | _ => .f1 .nopHic0F

/-- Row 1x of the opcode map, by column (R167). -/
def row1 : Nat → OpForm
  | 0 => .f2 .bpl
  | 1 => .f2 .oraIzy
  | 2 => .f2 .oraIzp
  | 3 => .f1 .nopHic13
  | 4 => .f2 .trbZp
  | 5 => .f2 .oraZpx
  | 6 => .f2 .aslZpx
  | 7 => .f1 .nopHic17
  | 8 => .f1 .clc
  | 9 => .f3 .oraAby
  | 10 => .f1 .incAcc
  | 11 => .f1 .nopHic1B
  | 12 => .f3 .trbAbs
  | 13 => .f3 .oraAbx
  | 14 => .f3 .aslAbx
  | _ => .f1 .nopHic1F

/-- Row 2x of the opcode map, by column (R167). -/
def row2 : Nat → OpForm
  | 0 => .f3 .jsr
  | 1 => .f2 .andIzx
  | 2 => .f2 .nopImm22
  | 3 => .f1 .nopHic23
  | 4 => .f2 .bitZp
  | 5 => .f2 .andZp
  | 6 => .f2 .rolZp
  | 7 => .f1 .nopHic27
  | 8 => .f1 .plp
  | 9 => .f2 .andImm
  | 10 => .f1 .rolAcc
  | 11 => .f1 .nopHic2B
  | 12 => .f3 .bitAbs
  | 13 => .f3 .andAbs
  | 14 => .f3 .rolAbs
  | _ => .f1 .nopHic2F

/-- Row 3x of the opcode map, by column (R167). -/
def row3 : Nat → OpForm
  | 0 => .f2 .bmi
  | 1 => .f2 .andIzy
  | 2 => .f2 .andIzp
  | 3 => .f1 .nopHic33
  | 4 => .f2 .bitZpx
  | 5 => .f2 .andZpx
  | 6 => .f2 .rolZpx
  | 7 => .f1 .nopHic37
  | 8 => .f1 .sec
  | 9 => .f3 .andAby
  | 10 => .f1 .decAcc
  | 11 => .f1 .nopHic3B
  | 12 => .f3 .bitAbx
  | 13 => .f3 .andAbx
  | 14 => .f3 .rolAbx
  | _ => .f1 .nopHic3F

/-- Row 4x of the opcode map, by column (R167). -/
def row4 : Nat → OpForm
  | 0 => .f1 .rti
  | 1 => .f2 .eorIzx
  | 2 => .f2 .nopImm42
  | 3 => .f1 .nopHic43
  | 4 => .f2 .nopZp44
  | 5 => .f2 .eorZp
  | 6 => .f2 .lsrZp
  | 7 => .f1 .nopHic47
  | 8 => .f1 .pha
  | 9 => .f2 .eorImm
  | 10 => .f1 .lsrAcc
  | 11 => .f1 .nopHic4B
  | 12 => .f3 .jmpAbs
  | 13 => .f3 .eorAbs
  | 14 => .f3 .lsrAbs
  | _ => .f1 .nopHic4F

/-- Row 5x of the opcode map, by column (R167). -/
def row5 : Nat → OpForm
  | 0 => .f2 .bvc
  | 1 => .f2 .eorIzy
  | 2 => .f2 .eorIzp
  | 3 => .f1 .nopHic53
  | 4 => .f2 .nopZpx54
  | 5 => .f2 .eorZpx
  | 6 => .f2 .lsrZpx
  | 7 => .f1 .nopHic57
  | 8 => .f1 .cli
  | 9 => .f3 .eorAby
  | 10 => .f1 .phy
  | 11 => .f1 .nopHic5B
  | 12 => .f3 .nopAbs5C
  | 13 => .f3 .eorAbx
  | 14 => .f3 .lsrAbx
  | _ => .f1 .nopHic5F

/-- Row 6x of the opcode map, by column (R167). -/
def row6 : Nat → OpForm
  | 0 => .f1 .rts
  | 1 => .f2 .adcIzx
  | 2 => .f2 .nopImm62
  | 3 => .f1 .nopHic63
  | 4 => .f2 .stzZp
  | 5 => .f2 .adcZp
  | 6 => .f2 .rorZp
  | 7 => .f1 .nopHic67
  | 8 => .f1 .pla
  | 9 => .f2 .adcImm
  | 10 => .f1 .rorAcc
  | 11 => .f1 .nopHic6B
  | 12 => .f3 .jmpInd
  | 13 => .f3 .adcAbs
  | 14 => .f3 .rorAbs
  | _ => .f1 .nopHic6F

/-- Row 7x of the opcode map, by column (R167). -/
def row7 : Nat → OpForm
  | 0 => .f2 .bvs
  | 1 => .f2 .adcIzy
  | 2 => .f2 .adcIzp
  | 3 => .f1 .nopHic73
  | 4 => .f2 .stzZpx
  | 5 => .f2 .adcZpx
  | 6 => .f2 .rorZpx
  | 7 => .f1 .nopHic77
  | 8 => .f1 .sei
  | 9 => .f3 .adcAby
  | 10 => .f1 .ply
  | 11 => .f1 .nopHic7B
  | 12 => .f3 .jmpIax
  | 13 => .f3 .adcAbx
  | 14 => .f3 .rorAbx
  | _ => .f1 .nopHic7F

/-- Row 8x of the opcode map, by column (R167). -/
def row8 : Nat → OpForm
  | 0 => .f2 .bra
  | 1 => .f2 .staIzx
  | 2 => .f2 .nopImm82
  | 3 => .f1 .nopHic83
  | 4 => .f2 .styZp
  | 5 => .f2 .staZp
  | 6 => .f2 .stxZp
  | 7 => .f1 .nopHic87
  | 8 => .f1 .dey
  | 9 => .f2 .bitImm
  | 10 => .f1 .txa
  | 11 => .f1 .nopHic8B
  | 12 => .f3 .styAbs
  | 13 => .f3 .staAbs
  | 14 => .f3 .stxAbs
  | _ => .f1 .nopHic8F

/-- Row 9x of the opcode map, by column (R167). -/
def row9 : Nat → OpForm
  | 0 => .f2 .bcc
  | 1 => .f2 .staIzy
  | 2 => .f2 .staIzp
  | 3 => .f1 .nopHic93
  | 4 => .f2 .styZpx
  | 5 => .f2 .staZpx
  | 6 => .f2 .stxZpy
  | 7 => .f1 .nopHic97
  | 8 => .f1 .tya
  | 9 => .f3 .staAby
  | 10 => .f1 .txs
  | 11 => .f1 .nopHic9B
  | 12 => .f3 .stzAbs
  | 13 => .f3 .staAbx
  | 14 => .f3 .stzAbx
  | _ => .f1 .nopHic9F

/-- Row Ax of the opcode map, by column (R167). -/
def rowA : Nat → OpForm
  | 0 => .f2 .ldyImm
  | 1 => .f2 .ldaIzx
  | 2 => .f2 .ldxImm
  | 3 => .f1 .nopHicA3
  | 4 => .f2 .ldyZp
  | 5 => .f2 .ldaZp
  | 6 => .f2 .ldxZp
  | 7 => .f1 .nopHicA7
  | 8 => .f1 .tay
  | 9 => .f2 .ldaImm
  | 10 => .f1 .tax
  | 11 => .f1 .nopHicAB
  | 12 => .f3 .ldyAbs
  | 13 => .f3 .ldaAbs
  | 14 => .f3 .ldxAbs
  | _ => .f1 .nopHicAF

/-- Row Bx of the opcode map, by column (R167). -/
def rowB : Nat → OpForm
  | 0 => .f2 .bcs
  | 1 => .f2 .ldaIzy
  | 2 => .f2 .ldaIzp
  | 3 => .f1 .nopHicB3
  | 4 => .f2 .ldyZpx
  | 5 => .f2 .ldaZpx
  | 6 => .f2 .ldxZpy
  | 7 => .f1 .nopHicB7
  | 8 => .f1 .clv
  | 9 => .f3 .ldaAby
  | 10 => .f1 .tsx
  | 11 => .f1 .nopHicBB
  | 12 => .f3 .ldyAbx
  | 13 => .f3 .ldaAbx
  | 14 => .f3 .ldxAby
  | _ => .f1 .nopHicBF

/-- Row Cx of the opcode map, by column (R167). -/
def rowC : Nat → OpForm
  | 0 => .f2 .cpyImm
  | 1 => .f2 .cmpIzx
  | 2 => .f2 .nopImmC2
  | 3 => .f1 .nopHicC3
  | 4 => .f2 .cpyZp
  | 5 => .f2 .cmpZp
  | 6 => .f2 .decZp
  | 7 => .f1 .nopHicC7
  | 8 => .f1 .iny
  | 9 => .f2 .cmpImm
  | 10 => .f1 .dex
  | 11 => .f1 .nopHicCB
  | 12 => .f3 .cpyAbs
  | 13 => .f3 .cmpAbs
  | 14 => .f3 .decAbs
  | _ => .f1 .nopHicCF

/-- Row Dx of the opcode map, by column (R167). -/
def rowD : Nat → OpForm
  | 0 => .f2 .bne
  | 1 => .f2 .cmpIzy
  | 2 => .f2 .cmpIzp
  | 3 => .f1 .nopHicD3
  | 4 => .f2 .nopZpxD4
  | 5 => .f2 .cmpZpx
  | 6 => .f2 .decZpx
  | 7 => .f1 .nopHicD7
  | 8 => .f1 .cld
  | 9 => .f3 .cmpAby
  | 10 => .f1 .phx
  | 11 => .f1 .nopHicDB
  | 12 => .f3 .nopAbsDC
  | 13 => .f3 .cmpAbx
  | 14 => .f3 .decAbx
  | _ => .f1 .nopHicDF

/-- Row Ex of the opcode map, by column (R167). -/
def rowE : Nat → OpForm
  | 0 => .f2 .cpxImm
  | 1 => .f2 .sbcIzx
  | 2 => .f2 .nopImmE2
  | 3 => .f1 .nopHicE3
  | 4 => .f2 .cpxZp
  | 5 => .f2 .sbcZp
  | 6 => .f2 .incZp
  | 7 => .f1 .nopHicE7
  | 8 => .f1 .inx
  | 9 => .f2 .sbcImm
  | 10 => .f1 .nop
  | 11 => .f1 .nopHicEB
  | 12 => .f3 .cpxAbs
  | 13 => .f3 .sbcAbs
  | 14 => .f3 .incAbs
  | _ => .f1 .nopHicEF

/-- Row Fx of the opcode map, by column (R167). -/
def rowF : Nat → OpForm
  | 0 => .f2 .beq
  | 1 => .f2 .sbcIzy
  | 2 => .f2 .sbcIzp
  | 3 => .f1 .nopHicF3
  | 4 => .f2 .nopZpxF4
  | 5 => .f2 .sbcZpx
  | 6 => .f2 .incZpx
  | 7 => .f1 .nopHicF7
  | 8 => .f1 .sed
  | 9 => .f3 .sbcAby
  | 10 => .f1 .plx
  | 11 => .f1 .nopHicFB
  | 12 => .f3 .nopAbsFC
  | 13 => .f3 .sbcAbx
  | 14 => .f3 .incAbx
  | _ => .f1 .nopHicFF

/-- The instruction of an opcode byte: its high nibble is the row of the map, its low nibble the column
(R167, R168). -/
def decodeOp (op : Byte) : OpForm :=
  match op.toNat / 16 with
  | 0 => row0 (op.toNat % 16)
  | 1 => row1 (op.toNat % 16)
  | 2 => row2 (op.toNat % 16)
  | 3 => row3 (op.toNat % 16)
  | 4 => row4 (op.toNat % 16)
  | 5 => row5 (op.toNat % 16)
  | 6 => row6 (op.toNat % 16)
  | 7 => row7 (op.toNat % 16)
  | 8 => row8 (op.toNat % 16)
  | 9 => row9 (op.toNat % 16)
  | 10 => rowA (op.toNat % 16)
  | 11 => rowB (op.toNat % 16)
  | 12 => rowC (op.toNat % 16)
  | 13 => rowD (op.toNat % 16)
  | 14 => rowE (op.toNat % 16)
  | _ => rowF (op.toNat % 16)

/-- The instruction of an opcode byte and two operand bytes, of which it uses as many as it has (R160). -/
def assemble (op b₁ b₂ : Byte) : Instr :=
  match decodeOp op with
  | .f1 i => i
  | .f2 mk => mk b₁
  | .f3 mk => mk (pair b₂ b₁)

/-- The number of operand bytes of a form (R160). -/
def OpForm.operandBytes : OpForm → Nat
  | .f1 _ => 0
  | .f2 _ => 1
  | .f3 _ => 2

/-- The instruction at the head of a list of bytes, and the bytes after it. -/
def decode : List Byte → Except DecodeError (Instr × List Byte)
  | [] => .error .noOpcode
  | op :: rest =>
    match decodeOp op, rest with
    | .f1 i, rest => .ok (i, rest)
    | .f2 mk, b :: rest => .ok (mk b, rest)
    | .f2 _, [] => .error .missingOperand
    | .f3 mk, lo :: hi :: rest => .ok (mk (pair hi lo), rest)
    | .f3 _, [_] => .error .missingOperand
    | .f3 _, [] => .error .missingOperand

/-- Byte `k` of a number, byte 0 the least significant. -/
def byteOf (w k : Nat) : Byte := BitVec.ofNat 8 (w / 256 ^ k)

/-- The three bytes, the longest instruction's length, of an instruction whose first `nbits` bits are those
of `w`, with zeros above: the first byte is bits 7..0, the next bits 15..8. -/
def tableBytes (nbits w : Nat) : List Byte :=
  let v := w % 2 ^ nbits
  [byteOf v 0, byteOf v 1, byteOf v 2]

/-- The instruction the decoder reads from the bits of an opcode-table row. -/
def decodeTableWord (nbits w : Nat) : Option Instr :=
  match decode (tableBytes nbits w) with
  | .ok (i, _) => some i
  | .error _ => none

/-- The bytes of an instruction (R160, R167); a 16-bit operand is little-endian. -/
def encode (i : Instr) : List Byte :=
  match i with
  | .brk sig => [0x00, sig]
  | .oraIzx z => [0x01, z]
  | .nopImm02 v => [0x02, v]
  | .nopHic03 => [0x03]
  | .tsbZp z => [0x04, z]
  | .oraZp z => [0x05, z]
  | .aslZp z => [0x06, z]
  | .nopHic07 => [0x07]
  | .php => [0x08]
  | .oraImm v => [0x09, v]
  | .aslAcc => [0x0A]
  | .nopHic0B => [0x0B]
  | .tsbAbs a => [0x0C, loByte a, hiByte a]
  | .oraAbs a => [0x0D, loByte a, hiByte a]
  | .aslAbs a => [0x0E, loByte a, hiByte a]
  | .nopHic0F => [0x0F]
  | .bpl nn => [0x10, nn]
  | .oraIzy z => [0x11, z]
  | .oraIzp z => [0x12, z]
  | .nopHic13 => [0x13]
  | .trbZp z => [0x14, z]
  | .oraZpx z => [0x15, z]
  | .aslZpx z => [0x16, z]
  | .nopHic17 => [0x17]
  | .clc => [0x18]
  | .oraAby a => [0x19, loByte a, hiByte a]
  | .incAcc => [0x1A]
  | .nopHic1B => [0x1B]
  | .trbAbs a => [0x1C, loByte a, hiByte a]
  | .oraAbx a => [0x1D, loByte a, hiByte a]
  | .aslAbx a => [0x1E, loByte a, hiByte a]
  | .nopHic1F => [0x1F]
  | .jsr a => [0x20, loByte a, hiByte a]
  | .andIzx z => [0x21, z]
  | .nopImm22 v => [0x22, v]
  | .nopHic23 => [0x23]
  | .bitZp z => [0x24, z]
  | .andZp z => [0x25, z]
  | .rolZp z => [0x26, z]
  | .nopHic27 => [0x27]
  | .plp => [0x28]
  | .andImm v => [0x29, v]
  | .rolAcc => [0x2A]
  | .nopHic2B => [0x2B]
  | .bitAbs a => [0x2C, loByte a, hiByte a]
  | .andAbs a => [0x2D, loByte a, hiByte a]
  | .rolAbs a => [0x2E, loByte a, hiByte a]
  | .nopHic2F => [0x2F]
  | .bmi nn => [0x30, nn]
  | .andIzy z => [0x31, z]
  | .andIzp z => [0x32, z]
  | .nopHic33 => [0x33]
  | .bitZpx z => [0x34, z]
  | .andZpx z => [0x35, z]
  | .rolZpx z => [0x36, z]
  | .nopHic37 => [0x37]
  | .sec => [0x38]
  | .andAby a => [0x39, loByte a, hiByte a]
  | .decAcc => [0x3A]
  | .nopHic3B => [0x3B]
  | .bitAbx a => [0x3C, loByte a, hiByte a]
  | .andAbx a => [0x3D, loByte a, hiByte a]
  | .rolAbx a => [0x3E, loByte a, hiByte a]
  | .nopHic3F => [0x3F]
  | .rti => [0x40]
  | .eorIzx z => [0x41, z]
  | .nopImm42 v => [0x42, v]
  | .nopHic43 => [0x43]
  | .nopZp44 z => [0x44, z]
  | .eorZp z => [0x45, z]
  | .lsrZp z => [0x46, z]
  | .nopHic47 => [0x47]
  | .pha => [0x48]
  | .eorImm v => [0x49, v]
  | .lsrAcc => [0x4A]
  | .nopHic4B => [0x4B]
  | .jmpAbs a => [0x4C, loByte a, hiByte a]
  | .eorAbs a => [0x4D, loByte a, hiByte a]
  | .lsrAbs a => [0x4E, loByte a, hiByte a]
  | .nopHic4F => [0x4F]
  | .bvc nn => [0x50, nn]
  | .eorIzy z => [0x51, z]
  | .eorIzp z => [0x52, z]
  | .nopHic53 => [0x53]
  | .nopZpx54 z => [0x54, z]
  | .eorZpx z => [0x55, z]
  | .lsrZpx z => [0x56, z]
  | .nopHic57 => [0x57]
  | .cli => [0x58]
  | .eorAby a => [0x59, loByte a, hiByte a]
  | .phy => [0x5A]
  | .nopHic5B => [0x5B]
  | .nopAbs5C a => [0x5C, loByte a, hiByte a]
  | .eorAbx a => [0x5D, loByte a, hiByte a]
  | .lsrAbx a => [0x5E, loByte a, hiByte a]
  | .nopHic5F => [0x5F]
  | .rts => [0x60]
  | .adcIzx z => [0x61, z]
  | .nopImm62 v => [0x62, v]
  | .nopHic63 => [0x63]
  | .stzZp z => [0x64, z]
  | .adcZp z => [0x65, z]
  | .rorZp z => [0x66, z]
  | .nopHic67 => [0x67]
  | .pla => [0x68]
  | .adcImm v => [0x69, v]
  | .rorAcc => [0x6A]
  | .nopHic6B => [0x6B]
  | .jmpInd a => [0x6C, loByte a, hiByte a]
  | .adcAbs a => [0x6D, loByte a, hiByte a]
  | .rorAbs a => [0x6E, loByte a, hiByte a]
  | .nopHic6F => [0x6F]
  | .bvs nn => [0x70, nn]
  | .adcIzy z => [0x71, z]
  | .adcIzp z => [0x72, z]
  | .nopHic73 => [0x73]
  | .stzZpx z => [0x74, z]
  | .adcZpx z => [0x75, z]
  | .rorZpx z => [0x76, z]
  | .nopHic77 => [0x77]
  | .sei => [0x78]
  | .adcAby a => [0x79, loByte a, hiByte a]
  | .ply => [0x7A]
  | .nopHic7B => [0x7B]
  | .jmpIax a => [0x7C, loByte a, hiByte a]
  | .adcAbx a => [0x7D, loByte a, hiByte a]
  | .rorAbx a => [0x7E, loByte a, hiByte a]
  | .nopHic7F => [0x7F]
  | .bra nn => [0x80, nn]
  | .staIzx z => [0x81, z]
  | .nopImm82 v => [0x82, v]
  | .nopHic83 => [0x83]
  | .styZp z => [0x84, z]
  | .staZp z => [0x85, z]
  | .stxZp z => [0x86, z]
  | .nopHic87 => [0x87]
  | .dey => [0x88]
  | .bitImm v => [0x89, v]
  | .txa => [0x8A]
  | .nopHic8B => [0x8B]
  | .styAbs a => [0x8C, loByte a, hiByte a]
  | .staAbs a => [0x8D, loByte a, hiByte a]
  | .stxAbs a => [0x8E, loByte a, hiByte a]
  | .nopHic8F => [0x8F]
  | .bcc nn => [0x90, nn]
  | .staIzy z => [0x91, z]
  | .staIzp z => [0x92, z]
  | .nopHic93 => [0x93]
  | .styZpx z => [0x94, z]
  | .staZpx z => [0x95, z]
  | .stxZpy z => [0x96, z]
  | .nopHic97 => [0x97]
  | .tya => [0x98]
  | .staAby a => [0x99, loByte a, hiByte a]
  | .txs => [0x9A]
  | .nopHic9B => [0x9B]
  | .stzAbs a => [0x9C, loByte a, hiByte a]
  | .staAbx a => [0x9D, loByte a, hiByte a]
  | .stzAbx a => [0x9E, loByte a, hiByte a]
  | .nopHic9F => [0x9F]
  | .ldyImm v => [0xA0, v]
  | .ldaIzx z => [0xA1, z]
  | .ldxImm v => [0xA2, v]
  | .nopHicA3 => [0xA3]
  | .ldyZp z => [0xA4, z]
  | .ldaZp z => [0xA5, z]
  | .ldxZp z => [0xA6, z]
  | .nopHicA7 => [0xA7]
  | .tay => [0xA8]
  | .ldaImm v => [0xA9, v]
  | .tax => [0xAA]
  | .nopHicAB => [0xAB]
  | .ldyAbs a => [0xAC, loByte a, hiByte a]
  | .ldaAbs a => [0xAD, loByte a, hiByte a]
  | .ldxAbs a => [0xAE, loByte a, hiByte a]
  | .nopHicAF => [0xAF]
  | .bcs nn => [0xB0, nn]
  | .ldaIzy z => [0xB1, z]
  | .ldaIzp z => [0xB2, z]
  | .nopHicB3 => [0xB3]
  | .ldyZpx z => [0xB4, z]
  | .ldaZpx z => [0xB5, z]
  | .ldxZpy z => [0xB6, z]
  | .nopHicB7 => [0xB7]
  | .clv => [0xB8]
  | .ldaAby a => [0xB9, loByte a, hiByte a]
  | .tsx => [0xBA]
  | .nopHicBB => [0xBB]
  | .ldyAbx a => [0xBC, loByte a, hiByte a]
  | .ldaAbx a => [0xBD, loByte a, hiByte a]
  | .ldxAby a => [0xBE, loByte a, hiByte a]
  | .nopHicBF => [0xBF]
  | .cpyImm v => [0xC0, v]
  | .cmpIzx z => [0xC1, z]
  | .nopImmC2 v => [0xC2, v]
  | .nopHicC3 => [0xC3]
  | .cpyZp z => [0xC4, z]
  | .cmpZp z => [0xC5, z]
  | .decZp z => [0xC6, z]
  | .nopHicC7 => [0xC7]
  | .iny => [0xC8]
  | .cmpImm v => [0xC9, v]
  | .dex => [0xCA]
  | .nopHicCB => [0xCB]
  | .cpyAbs a => [0xCC, loByte a, hiByte a]
  | .cmpAbs a => [0xCD, loByte a, hiByte a]
  | .decAbs a => [0xCE, loByte a, hiByte a]
  | .nopHicCF => [0xCF]
  | .bne nn => [0xD0, nn]
  | .cmpIzy z => [0xD1, z]
  | .cmpIzp z => [0xD2, z]
  | .nopHicD3 => [0xD3]
  | .nopZpxD4 z => [0xD4, z]
  | .cmpZpx z => [0xD5, z]
  | .decZpx z => [0xD6, z]
  | .nopHicD7 => [0xD7]
  | .cld => [0xD8]
  | .cmpAby a => [0xD9, loByte a, hiByte a]
  | .phx => [0xDA]
  | .nopHicDB => [0xDB]
  | .nopAbsDC a => [0xDC, loByte a, hiByte a]
  | .cmpAbx a => [0xDD, loByte a, hiByte a]
  | .decAbx a => [0xDE, loByte a, hiByte a]
  | .nopHicDF => [0xDF]
  | .cpxImm v => [0xE0, v]
  | .sbcIzx z => [0xE1, z]
  | .nopImmE2 v => [0xE2, v]
  | .nopHicE3 => [0xE3]
  | .cpxZp z => [0xE4, z]
  | .sbcZp z => [0xE5, z]
  | .incZp z => [0xE6, z]
  | .nopHicE7 => [0xE7]
  | .inx => [0xE8]
  | .sbcImm v => [0xE9, v]
  | .nop => [0xEA]
  | .nopHicEB => [0xEB]
  | .cpxAbs a => [0xEC, loByte a, hiByte a]
  | .sbcAbs a => [0xED, loByte a, hiByte a]
  | .incAbs a => [0xEE, loByte a, hiByte a]
  | .nopHicEF => [0xEF]
  | .beq nn => [0xF0, nn]
  | .sbcIzy z => [0xF1, z]
  | .sbcIzp z => [0xF2, z]
  | .nopHicF3 => [0xF3]
  | .nopZpxF4 z => [0xF4, z]
  | .sbcZpx z => [0xF5, z]
  | .incZpx z => [0xF6, z]
  | .nopHicF7 => [0xF7]
  | .sed => [0xF8]
  | .sbcAby a => [0xF9, loByte a, hiByte a]
  | .plx => [0xFA]
  | .nopHicFB => [0xFB]
  | .nopAbsFC a => [0xFC, loByte a, hiByte a]
  | .sbcAbx a => [0xFD, loByte a, hiByte a]
  | .incAbx a => [0xFE, loByte a, hiByte a]
  | .nopHicFF => [0xFF]

/-- Every instruction is well formed: its bytes have the length its opcode fixes (R168). -/
def Instr.wellFormed (i : Instr) : Bool := wellFormedBytes (encode i)

end Sys2Proof
end

