-- ==== Sys2Proof/Machine/Program.lean ====
section
/-! DEFINITION. Machine/Program.lean: the bus sequence of every instruction, after its operand bytes
(40_cpu_machine.md R204), for the arbiter step that serves one request at a time. `exec` performs the
same sequence (`exec_eq_meaning`). -/

namespace Sys2Proof.Machine

/-- The sequence an opcode selects (R204), built from the registers as the operand fetch leaves them. -/
def program (i : Instr) (r : Regs) : List Micro :=
  match i with
  | .brk _ => seqBrk r
  | .oraIzx z => seqOraIzx z r
  | .nopImm02 _ => seqNopImm02
  | .nopHic03 => seqNopHic03
  | .tsbZp z => seqTsbZp z
  | .oraZp z => seqOraZp z
  | .aslZp z => seqAslZp z
  | .nopHic07 => seqNopHic07
  | .php => seqPhp r
  | .oraImm v => seqOraImm v
  | .aslAcc => seqAslAcc
  | .nopHic0B => seqNopHic0B
  | .tsbAbs a => seqTsbAbs a
  | .oraAbs a => seqOraAbs a
  | .aslAbs a => seqAslAbs a
  | .nopHic0F => seqNopHic0F
  | .bpl nn => seqBpl nn r
  | .oraIzy z => seqOraIzy z r
  | .oraIzp z => seqOraIzp z
  | .nopHic13 => seqNopHic13
  | .trbZp z => seqTrbZp z
  | .oraZpx z => seqOraZpx z r
  | .aslZpx z => seqAslZpx z r
  | .nopHic17 => seqNopHic17
  | .clc => seqClc
  | .oraAby a => seqOraAby a r
  | .incAcc => seqIncAcc
  | .nopHic1B => seqNopHic1B
  | .trbAbs a => seqTrbAbs a
  | .oraAbx a => seqOraAbx a r
  | .aslAbx a => seqAslAbx a r
  | .nopHic1F => seqNopHic1F
  | .jsr a => seqJsr a r
  | .andIzx z => seqAndIzx z r
  | .nopImm22 _ => seqNopImm22
  | .nopHic23 => seqNopHic23
  | .bitZp z => seqBitZp z
  | .andZp z => seqAndZp z
  | .rolZp z => seqRolZp z
  | .nopHic27 => seqNopHic27
  | .plp => seqPlp
  | .andImm v => seqAndImm v
  | .rolAcc => seqRolAcc
  | .nopHic2B => seqNopHic2B
  | .bitAbs a => seqBitAbs a
  | .andAbs a => seqAndAbs a
  | .rolAbs a => seqRolAbs a
  | .nopHic2F => seqNopHic2F
  | .bmi nn => seqBmi nn r
  | .andIzy z => seqAndIzy z r
  | .andIzp z => seqAndIzp z
  | .nopHic33 => seqNopHic33
  | .bitZpx z => seqBitZpx z r
  | .andZpx z => seqAndZpx z r
  | .rolZpx z => seqRolZpx z r
  | .nopHic37 => seqNopHic37
  | .sec => seqSec
  | .andAby a => seqAndAby a r
  | .decAcc => seqDecAcc
  | .nopHic3B => seqNopHic3B
  | .bitAbx a => seqBitAbx a r
  | .andAbx a => seqAndAbx a r
  | .rolAbx a => seqRolAbx a r
  | .nopHic3F => seqNopHic3F
  | .rti => seqRti
  | .eorIzx z => seqEorIzx z r
  | .nopImm42 _ => seqNopImm42
  | .nopHic43 => seqNopHic43
  | .nopZp44 z => seqNopZp44 z
  | .eorZp z => seqEorZp z
  | .lsrZp z => seqLsrZp z
  | .nopHic47 => seqNopHic47
  | .pha => seqPha r
  | .eorImm v => seqEorImm v
  | .lsrAcc => seqLsrAcc
  | .nopHic4B => seqNopHic4B
  | .jmpAbs a => seqJmpAbs a
  | .eorAbs a => seqEorAbs a
  | .lsrAbs a => seqLsrAbs a
  | .nopHic4F => seqNopHic4F
  | .bvc nn => seqBvc nn r
  | .eorIzy z => seqEorIzy z r
  | .eorIzp z => seqEorIzp z
  | .nopHic53 => seqNopHic53
  | .nopZpx54 z => seqNopZpx54 z r
  | .eorZpx z => seqEorZpx z r
  | .lsrZpx z => seqLsrZpx z r
  | .nopHic57 => seqNopHic57
  | .cli => seqCli
  | .eorAby a => seqEorAby a r
  | .phy => seqPhy r
  | .nopHic5B => seqNopHic5B
  | .nopAbs5C a => seqNopAbs5C Config.nop5cAddr a
  | .eorAbx a => seqEorAbx a r
  | .lsrAbx a => seqLsrAbx a r
  | .nopHic5F => seqNopHic5F
  | .rts => seqRts
  | .adcIzx z => seqAdcIzx z r
  | .nopImm62 _ => seqNopImm62
  | .nopHic63 => seqNopHic63
  | .stzZp z => seqStzZp z
  | .adcZp z => seqAdcZp z r
  | .rorZp z => seqRorZp z
  | .nopHic67 => seqNopHic67
  | .pla => seqPla
  | .adcImm v => seqAdcImm v r
  | .rorAcc => seqRorAcc
  | .nopHic6B => seqNopHic6B
  | .jmpInd a => seqJmpInd a r
  | .adcAbs a => seqAdcAbs a r
  | .rorAbs a => seqRorAbs a
  | .nopHic6F => seqNopHic6F
  | .bvs nn => seqBvs nn r
  | .adcIzy z => seqAdcIzy z r
  | .adcIzp z => seqAdcIzp z r
  | .nopHic73 => seqNopHic73
  | .stzZpx z => seqStzZpx z r
  | .adcZpx z => seqAdcZpx z r
  | .rorZpx z => seqRorZpx z r
  | .nopHic77 => seqNopHic77
  | .sei => seqSei
  | .adcAby a => seqAdcAby a r
  | .ply => seqPly
  | .nopHic7B => seqNopHic7B
  | .jmpIax a => seqJmpIax a r
  | .adcAbx a => seqAdcAbx a r
  | .rorAbx a => seqRorAbx a r
  | .nopHic7F => seqNopHic7F
  | .bra nn => seqBra nn r
  | .staIzx z => seqStaIzx z r
  | .nopImm82 _ => seqNopImm82
  | .nopHic83 => seqNopHic83
  | .styZp z => seqStyZp z r
  | .staZp z => seqStaZp z r
  | .stxZp z => seqStxZp z r
  | .nopHic87 => seqNopHic87
  | .dey => seqDey
  | .bitImm v => seqBitImm v
  | .txa => seqTxa
  | .nopHic8B => seqNopHic8B
  | .styAbs a => seqStyAbs a r
  | .staAbs a => seqStaAbs a r
  | .stxAbs a => seqStxAbs a r
  | .nopHic8F => seqNopHic8F
  | .bcc nn => seqBcc nn r
  | .staIzy z => seqStaIzy z r
  | .staIzp z => seqStaIzp z r
  | .nopHic93 => seqNopHic93
  | .styZpx z => seqStyZpx z r
  | .staZpx z => seqStaZpx z r
  | .stxZpy z => seqStxZpy z r
  | .nopHic97 => seqNopHic97
  | .tya => seqTya
  | .staAby a => seqStaAby a r
  | .txs => seqTxs
  | .nopHic9B => seqNopHic9B
  | .stzAbs a => seqStzAbs a
  | .staAbx a => seqStaAbx a r
  | .stzAbx a => seqStzAbx a r
  | .nopHic9F => seqNopHic9F
  | .ldyImm v => seqLdyImm v
  | .ldaIzx z => seqLdaIzx z r
  | .ldxImm v => seqLdxImm v
  | .nopHicA3 => seqNopHicA3
  | .ldyZp z => seqLdyZp z
  | .ldaZp z => seqLdaZp z
  | .ldxZp z => seqLdxZp z
  | .nopHicA7 => seqNopHicA7
  | .tay => seqTay
  | .ldaImm v => seqLdaImm v
  | .tax => seqTax
  | .nopHicAB => seqNopHicAB
  | .ldyAbs a => seqLdyAbs a
  | .ldaAbs a => seqLdaAbs a
  | .ldxAbs a => seqLdxAbs a
  | .nopHicAF => seqNopHicAF
  | .bcs nn => seqBcs nn r
  | .ldaIzy z => seqLdaIzy z r
  | .ldaIzp z => seqLdaIzp z
  | .nopHicB3 => seqNopHicB3
  | .ldyZpx z => seqLdyZpx z r
  | .ldaZpx z => seqLdaZpx z r
  | .ldxZpy z => seqLdxZpy z r
  | .nopHicB7 => seqNopHicB7
  | .clv => seqClv
  | .ldaAby a => seqLdaAby a r
  | .tsx => seqTsx
  | .nopHicBB => seqNopHicBB
  | .ldyAbx a => seqLdyAbx a r
  | .ldaAbx a => seqLdaAbx a r
  | .ldxAby a => seqLdxAby a r
  | .nopHicBF => seqNopHicBF
  | .cpyImm v => seqCpyImm v
  | .cmpIzx z => seqCmpIzx z r
  | .nopImmC2 _ => seqNopImmC2
  | .nopHicC3 => seqNopHicC3
  | .cpyZp z => seqCpyZp z
  | .cmpZp z => seqCmpZp z
  | .decZp z => seqDecZp z
  | .nopHicC7 => seqNopHicC7
  | .iny => seqIny
  | .cmpImm v => seqCmpImm v
  | .dex => seqDex
  | .nopHicCB => seqNopHicCB
  | .cpyAbs a => seqCpyAbs a
  | .cmpAbs a => seqCmpAbs a
  | .decAbs a => seqDecAbs a
  | .nopHicCF => seqNopHicCF
  | .bne nn => seqBne nn r
  | .cmpIzy z => seqCmpIzy z r
  | .cmpIzp z => seqCmpIzp z
  | .nopHicD3 => seqNopHicD3
  | .nopZpxD4 z => seqNopZpxD4 z r
  | .cmpZpx z => seqCmpZpx z r
  | .decZpx z => seqDecZpx z r
  | .nopHicD7 => seqNopHicD7
  | .cld => seqCld
  | .cmpAby a => seqCmpAby a r
  | .phx => seqPhx r
  | .nopHicDB => seqNopHicDB
  | .nopAbsDC a => seqNopAbsDC a
  | .cmpAbx a => seqCmpAbx a r
  | .decAbx a => seqDecAbx a r
  | .nopHicDF => seqNopHicDF
  | .cpxImm v => seqCpxImm v
  | .sbcIzx z => seqSbcIzx z r
  | .nopImmE2 _ => seqNopImmE2
  | .nopHicE3 => seqNopHicE3
  | .cpxZp z => seqCpxZp z
  | .sbcZp z => seqSbcZp z r
  | .incZp z => seqIncZp z
  | .nopHicE7 => seqNopHicE7
  | .inx => seqInx
  | .sbcImm v => seqSbcImm v r
  | .nop => seqNop
  | .nopHicEB => seqNopHicEB
  | .cpxAbs a => seqCpxAbs a
  | .sbcAbs a => seqSbcAbs a r
  | .incAbs a => seqIncAbs a
  | .nopHicEF => seqNopHicEF
  | .beq nn => seqBeq nn r
  | .sbcIzy z => seqSbcIzy z r
  | .sbcIzp z => seqSbcIzp z r
  | .nopHicF3 => seqNopHicF3
  | .nopZpxF4 z => seqNopZpxF4 z r
  | .sbcZpx z => seqSbcZpx z r
  | .incZpx z => seqIncZpx z r
  | .nopHicF7 => seqNopHicF7
  | .sed => seqSed
  | .sbcAby a => seqSbcAby a r
  | .plx => seqPlx
  | .nopHicFB => seqNopHicFB
  | .nopAbsFC a => seqNopAbsFC a
  | .sbcAbx a => seqSbcAbx a r
  | .incAbx a => seqIncAbx a r
  | .nopHicFF => seqNopHicFF

end Sys2Proof.Machine
end

