-- ==== Sys2Proof/Machine/Arbiter.lean ====
section
/-! DEFINITION. Machine/Arbiter.lean: the arbiter (20_memory.md R96, R100 to R104, R107) and the CPU's
side of a request (40_cpu_machine.md R200 to R204, R209, R215; 60_exceptions.md R456, R463). -/

namespace Sys2Proof.Machine

/-! ## Events (R94 to R96) -/

/-- The handler of a drained action, run with the action's own tick (R94, R96). Control returns to the
host at END_FRAME, which is shown by the output. -/
def handle (e : Action) (s : State) : State :=
  match e.kind with
  | .dma => dmaBurst e.tick s
  | .timer n => timerEvent n e.tick s
  | .irqUpdate => irqUpdate s
  | .endFrame => { s with out := .endFrame e.tick :: s.out }

/-- `e <- pop(); handle(e)` (R100). -/
def drain (s : State) : State :=
  match pop s with
  | none => s
  | some (e, s) => handle e s

/-- The idle jump: `now <- peek_tick()` (R104). -/
def idleJump (s : State) : State :=
  match peekTick s with
  | none => s
  | some t => { s with now := t }

/-! ## The CPU's in-flight request (R103, R200 to R203) -/

/-- The kind of the request an element of a sequence emits (R205). -/
def Micro.kind (m : Micro) : Option ReqKind :=
  match m with
  | .setEa _ => none
  | .setVal _ => none
  | .setLo _ => none
  | .pointer _ => none
  | .act _ => none
  | .discard _ => some .read
  | .discardIfCrossed _ => some .read
  | .read _ _ => some .read
  | .operandHi => some .fetchOperand
  | .write _ _ => some .write
  | .writeBack _ _ => some .write
  | .push _ => some .write
  | .pull _ => some .read

/-- The kind of the request a continuation waits on (R202, R205). -/
def Cont.kind (k : Cont) : Option ReqKind :=
  match k with
  | .boundary => some .fetchOpcode
  | .operands _ _ => some .fetchOperand
  | .running [] => none
  | .running (m :: _) => m.kind

/-- The operand bytes fetched before an instruction's sequence starts. JSR fetches its second one late
(R214). -/
def operandFetches (op : Byte) : Nat := if op = 0x20 then 1 else (decodeOp op).operandBytes

/-- The instruction of an opcode and its fetched operand bytes. JSR's high byte, fetched late, is taken
from where it stands now; the meaning of JSR does not use it. -/
def fetchedInstr (op : Byte) (got : List Byte) (s : State) : Instr :=
  assemble op (got.getD 0 0) (got.getD 1 (busRead s.regs.pc s).1)

/-- What the CPU does with a response, up to its next request. -/
inductive Resumed where
  /-- The next operand byte was asked for. -/
  | fetch (s : State)
  /-- The operand bytes are fetched: the instruction runs. -/
  | instr (i : Instr) (s : State)
  /-- A sequence goes on. -/
  | seq (l : List Micro) (s : State)

/-- PC moves past an instruction byte that was fetched and used (R209). -/
def advancePc (s : State) : State := { s with regs := { s.regs with pc := s.regs.pc + 1 } }

/-- With opcode `op` and operand bytes `got` fetched: the next operand fetch, or the instruction (R204,
R214). -/
def fetchOrRun (op : Byte) (got : List Byte) (s : State) : Resumed :=
  if got.length < operandFetches op then
    .fetch (suspend { kind := .fetchOperand, addr := s.regs.pc, value := 0 } (.operands op got) s)
  else .instr (fetchedInstr op got s) s

/-- The response to a FETCH_OPCODE: the mask that was delivered is acknowledged (R463), and an interrupt
is taken or the opcode runs (R203, R456). -/
def boundaryResume (v : Byte) (s : State) : Resumed :=
  match interruptFor s.irqMask s.regs with
  | some seq => .seq seq { s with irqMask := acknowledge s.irqMask }
  | none => fetchOrRun v [] (advancePc { s with irqMask := acknowledge s.irqMask })

/-- The CPU, suspended with continuation `k`, is resumed with byte `v` (R103 step 6, R200). -/
def cpuResume (k : Cont) (v : Byte) (s : State) : Resumed :=
  match k with
  | .boundary => boundaryResume v s
  | .operands op got => fetchOrRun op (got ++ [v]) (advancePc s)
  | .running [] => .seq [] s
  | .running (m :: rest) => .seq rest (m.after v s)

/-- The in-flight request is serviced and the CPU resumed (R103); the two faults are those of R215. -/
def cpuService (s : State) : Except Fault Resumed :=
  match s.req with
  | none => .error .noCpuRequest
  | some r =>
    if s.cont.kind = some r.kind then .ok (cpuResume s.cont (serve r s).1 (serve r s).2)
    else .error .wrongCpuRequest

/-! ## The arbiter step of the spec: one request or one event (R100) -/

/-- What was resumed runs until it emits its next request (R200). -/
def Resumed.emit : Resumed → State
  | .fetch s => s
  | .instr i s => Machine.emit (program i s.regs) s
  | .seq l s => Machine.emit l s

/-- `cpu_step()` (R103). -/
def cpuStep (s : State) : Except Fault State :=
  match cpuService s with
  | .error f => .error f
  | .ok r => .ok r.emit

/-- `step()` of R100: one event, one sprite request, one CPU request or one idle jump. -/
def arbiterStep (s : State) : Except Fault State :=
  match turn s with
  | .event => .ok (drain s)
  | .sprite => spriteStep s
  | .cpu => cpuStep s
  | .idle => .ok (idleJump s)
  | .stuck => .error .stuck

/-- `n` arbiter steps. -/
def arbiterRun : Nat → State → Except Fault State
  | 0, s => .ok s
  | n + 1, s =>
    match arbiterStep s with
    | .error f => .error f
    | .ok s' => arbiterRun n s'

/-! ## The CPU's turn as one step

The CPU's requests are serviced one after another for as long as R100 gives the CPU the bus, up to the
end of the instruction or of the sequence under way. -/

/-- What the CPU does from its in-flight request on. `fuel` bounds the operand fetches: an instruction
has one opcode byte and at most two operand bytes. -/
def cpuTurn : Nat → State → Host.Outcome State Fault Refusal
  | 0, s => .next s
  | fuel + 1, s =>
    match cpuService s with
    | .error f => .fault f
    | .ok (.fetch s') => if turn s' = .cpu then cpuTurn fuel s' else .next s'
    | .ok (.instr i s') => exec i s'
    | .ok (.seq l s') => meaning l s'

/-- The outcome of an arbiter step. -/
def outcome : Except Fault State → Host.Outcome State Fault Refusal
  | .error f => .fault f
  | .ok s => .next s

/-- One step of the machine: an arbiter step (R100), or, on the CPU's turn, as many as the CPU takes
before another agent's turn or the next fetch boundary (the statement StepIsArbiterSteps). -/
def machineStep (s : State) : Host.Outcome State Fault Refusal :=
  match turn s with
  | .cpu => cpuTurn 3 s
  | .event => .next (drain s)
  | .sprite => outcome (spriteStep s)
  | .idle => .next (idleJump s)
  | .stuck => .fault .stuck

/-! ## A program placed from outside (70_reset_and_hazards.md R605) -/

/-- Bytes placed in RAM at `a`, wrapping (R605). -/
def placeBytes (a : Addr) : List Byte → State → State
  | [], s => s
  | b :: bs, s => placeBytes (a + 1) bs (ramWrite s a b)

/-- Where an instruction is placed: PC, if RAM answers its three bytes there, and 0x0200 otherwise. -/
def placeAddr (s : State) : Addr :=
  let pc := s.regs.pc
  if regionOf pc s.mapctl = .ram && regionOf (pc + 1) s.mapctl = .ram && regionOf (pc + 2) s.mapctl = .ram
  then pc else 0x0200

/-- The machine about to fetch the instruction whose bytes are given: they stand in RAM at PC, the CPU is
at a fetch boundary with nothing to take, and it is the CPU's turn. -/
def placeFetch (bytes : List Byte) (s : State) : State :=
  let a := placeAddr s
  placeBytes a bytes
    { s with
      regs := { s.regs with pc := a }
      req := some { kind := .fetchOpcode, addr := a, value := 0 }
      cont := .boundary
      loc := Locals.clear
      irqMask := { reset := false, nmi := false, irq := false }
      cpuRun := .run
      queue := []
      spr := { s.spr with st := .idle, req := none, cont := .none } }

end Sys2Proof.Machine
end

