-- ==== Sys2Proof/Machine/Step.lean ====
section
/-! DEFINITION. Machine/Step.lean: one step of the machine, and a state in which it runs a given
instruction next. -/

namespace Sys2Proof.Machine

/-- One step (20_memory.md R100). -/
def step (s : State) : Host.Outcome State Fault Refusal := machineStep s

/-- The machine with the instruction of an opcode-table word where `step` fetches next. -/
def State.withFetchWord (s : State) (nbits w : Nat) : State := placeFetch (tableBytes nbits w) s

end Sys2Proof.Machine
end

