-- ==== Sys2Proof/Laws/PerInstr.lean ====
section
/-! SUPPORT. Laws/PerInstr.lean: the family `Encoded`, one lemma for each constructor of `Instr`. -/

namespace Sys2Proof.Laws

/-- The bytes of the instruction begin with an opcode byte whose form has as many operand bytes as follow,
and their number is the one the map's columns give (R160, R168). -/
def Encoded.Statement (i : Instr) : Prop :=
  i.wellFormed = true ∧
    ((encode i).head?.map decodeOp).map OpForm.operandBytes = some ((encode i).length - 1)

theorem Encoded.brk (sig : Byte) : Encoded.Statement (.brk sig) := ⟨rfl, rfl⟩
theorem Encoded.oraIzx (z : Byte) : Encoded.Statement (.oraIzx z) := ⟨rfl, rfl⟩
theorem Encoded.nopImm02 (v : Byte) : Encoded.Statement (.nopImm02 v) := ⟨rfl, rfl⟩
theorem Encoded.nopHic03 : Encoded.Statement (.nopHic03) := ⟨rfl, rfl⟩
theorem Encoded.tsbZp (z : Byte) : Encoded.Statement (.tsbZp z) := ⟨rfl, rfl⟩
theorem Encoded.oraZp (z : Byte) : Encoded.Statement (.oraZp z) := ⟨rfl, rfl⟩
theorem Encoded.aslZp (z : Byte) : Encoded.Statement (.aslZp z) := ⟨rfl, rfl⟩
theorem Encoded.nopHic07 : Encoded.Statement (.nopHic07) := ⟨rfl, rfl⟩
theorem Encoded.php : Encoded.Statement (.php) := ⟨rfl, rfl⟩
theorem Encoded.oraImm (v : Byte) : Encoded.Statement (.oraImm v) := ⟨rfl, rfl⟩
theorem Encoded.aslAcc : Encoded.Statement (.aslAcc) := ⟨rfl, rfl⟩
theorem Encoded.nopHic0B : Encoded.Statement (.nopHic0B) := ⟨rfl, rfl⟩
theorem Encoded.tsbAbs (a : Addr) : Encoded.Statement (.tsbAbs a) := ⟨rfl, rfl⟩
theorem Encoded.oraAbs (a : Addr) : Encoded.Statement (.oraAbs a) := ⟨rfl, rfl⟩
theorem Encoded.aslAbs (a : Addr) : Encoded.Statement (.aslAbs a) := ⟨rfl, rfl⟩
theorem Encoded.nopHic0F : Encoded.Statement (.nopHic0F) := ⟨rfl, rfl⟩
theorem Encoded.bpl (nn : Byte) : Encoded.Statement (.bpl nn) := ⟨rfl, rfl⟩
theorem Encoded.oraIzy (z : Byte) : Encoded.Statement (.oraIzy z) := ⟨rfl, rfl⟩
theorem Encoded.oraIzp (z : Byte) : Encoded.Statement (.oraIzp z) := ⟨rfl, rfl⟩
theorem Encoded.nopHic13 : Encoded.Statement (.nopHic13) := ⟨rfl, rfl⟩
theorem Encoded.trbZp (z : Byte) : Encoded.Statement (.trbZp z) := ⟨rfl, rfl⟩
theorem Encoded.oraZpx (z : Byte) : Encoded.Statement (.oraZpx z) := ⟨rfl, rfl⟩
theorem Encoded.aslZpx (z : Byte) : Encoded.Statement (.aslZpx z) := ⟨rfl, rfl⟩
theorem Encoded.nopHic17 : Encoded.Statement (.nopHic17) := ⟨rfl, rfl⟩
theorem Encoded.clc : Encoded.Statement (.clc) := ⟨rfl, rfl⟩
theorem Encoded.oraAby (a : Addr) : Encoded.Statement (.oraAby a) := ⟨rfl, rfl⟩
theorem Encoded.incAcc : Encoded.Statement (.incAcc) := ⟨rfl, rfl⟩
theorem Encoded.nopHic1B : Encoded.Statement (.nopHic1B) := ⟨rfl, rfl⟩
theorem Encoded.trbAbs (a : Addr) : Encoded.Statement (.trbAbs a) := ⟨rfl, rfl⟩
theorem Encoded.oraAbx (a : Addr) : Encoded.Statement (.oraAbx a) := ⟨rfl, rfl⟩
theorem Encoded.aslAbx (a : Addr) : Encoded.Statement (.aslAbx a) := ⟨rfl, rfl⟩
theorem Encoded.nopHic1F : Encoded.Statement (.nopHic1F) := ⟨rfl, rfl⟩
theorem Encoded.jsr (a : Addr) : Encoded.Statement (.jsr a) := ⟨rfl, rfl⟩
theorem Encoded.andIzx (z : Byte) : Encoded.Statement (.andIzx z) := ⟨rfl, rfl⟩
theorem Encoded.nopImm22 (v : Byte) : Encoded.Statement (.nopImm22 v) := ⟨rfl, rfl⟩
theorem Encoded.nopHic23 : Encoded.Statement (.nopHic23) := ⟨rfl, rfl⟩
theorem Encoded.bitZp (z : Byte) : Encoded.Statement (.bitZp z) := ⟨rfl, rfl⟩
theorem Encoded.andZp (z : Byte) : Encoded.Statement (.andZp z) := ⟨rfl, rfl⟩
theorem Encoded.rolZp (z : Byte) : Encoded.Statement (.rolZp z) := ⟨rfl, rfl⟩
theorem Encoded.nopHic27 : Encoded.Statement (.nopHic27) := ⟨rfl, rfl⟩
theorem Encoded.plp : Encoded.Statement (.plp) := ⟨rfl, rfl⟩
theorem Encoded.andImm (v : Byte) : Encoded.Statement (.andImm v) := ⟨rfl, rfl⟩
theorem Encoded.rolAcc : Encoded.Statement (.rolAcc) := ⟨rfl, rfl⟩
theorem Encoded.nopHic2B : Encoded.Statement (.nopHic2B) := ⟨rfl, rfl⟩
theorem Encoded.bitAbs (a : Addr) : Encoded.Statement (.bitAbs a) := ⟨rfl, rfl⟩
theorem Encoded.andAbs (a : Addr) : Encoded.Statement (.andAbs a) := ⟨rfl, rfl⟩
theorem Encoded.rolAbs (a : Addr) : Encoded.Statement (.rolAbs a) := ⟨rfl, rfl⟩
theorem Encoded.nopHic2F : Encoded.Statement (.nopHic2F) := ⟨rfl, rfl⟩
theorem Encoded.bmi (nn : Byte) : Encoded.Statement (.bmi nn) := ⟨rfl, rfl⟩
theorem Encoded.andIzy (z : Byte) : Encoded.Statement (.andIzy z) := ⟨rfl, rfl⟩
theorem Encoded.andIzp (z : Byte) : Encoded.Statement (.andIzp z) := ⟨rfl, rfl⟩
theorem Encoded.nopHic33 : Encoded.Statement (.nopHic33) := ⟨rfl, rfl⟩
theorem Encoded.bitZpx (z : Byte) : Encoded.Statement (.bitZpx z) := ⟨rfl, rfl⟩
theorem Encoded.andZpx (z : Byte) : Encoded.Statement (.andZpx z) := ⟨rfl, rfl⟩
theorem Encoded.rolZpx (z : Byte) : Encoded.Statement (.rolZpx z) := ⟨rfl, rfl⟩
theorem Encoded.nopHic37 : Encoded.Statement (.nopHic37) := ⟨rfl, rfl⟩
theorem Encoded.sec : Encoded.Statement (.sec) := ⟨rfl, rfl⟩
theorem Encoded.andAby (a : Addr) : Encoded.Statement (.andAby a) := ⟨rfl, rfl⟩
theorem Encoded.decAcc : Encoded.Statement (.decAcc) := ⟨rfl, rfl⟩
theorem Encoded.nopHic3B : Encoded.Statement (.nopHic3B) := ⟨rfl, rfl⟩
theorem Encoded.bitAbx (a : Addr) : Encoded.Statement (.bitAbx a) := ⟨rfl, rfl⟩
theorem Encoded.andAbx (a : Addr) : Encoded.Statement (.andAbx a) := ⟨rfl, rfl⟩
theorem Encoded.rolAbx (a : Addr) : Encoded.Statement (.rolAbx a) := ⟨rfl, rfl⟩
theorem Encoded.nopHic3F : Encoded.Statement (.nopHic3F) := ⟨rfl, rfl⟩
theorem Encoded.rti : Encoded.Statement (.rti) := ⟨rfl, rfl⟩
theorem Encoded.eorIzx (z : Byte) : Encoded.Statement (.eorIzx z) := ⟨rfl, rfl⟩
theorem Encoded.nopImm42 (v : Byte) : Encoded.Statement (.nopImm42 v) := ⟨rfl, rfl⟩
theorem Encoded.nopHic43 : Encoded.Statement (.nopHic43) := ⟨rfl, rfl⟩
theorem Encoded.nopZp44 (z : Byte) : Encoded.Statement (.nopZp44 z) := ⟨rfl, rfl⟩
theorem Encoded.eorZp (z : Byte) : Encoded.Statement (.eorZp z) := ⟨rfl, rfl⟩
theorem Encoded.lsrZp (z : Byte) : Encoded.Statement (.lsrZp z) := ⟨rfl, rfl⟩
theorem Encoded.nopHic47 : Encoded.Statement (.nopHic47) := ⟨rfl, rfl⟩
theorem Encoded.pha : Encoded.Statement (.pha) := ⟨rfl, rfl⟩
theorem Encoded.eorImm (v : Byte) : Encoded.Statement (.eorImm v) := ⟨rfl, rfl⟩
theorem Encoded.lsrAcc : Encoded.Statement (.lsrAcc) := ⟨rfl, rfl⟩
theorem Encoded.nopHic4B : Encoded.Statement (.nopHic4B) := ⟨rfl, rfl⟩
theorem Encoded.jmpAbs (a : Addr) : Encoded.Statement (.jmpAbs a) := ⟨rfl, rfl⟩
theorem Encoded.eorAbs (a : Addr) : Encoded.Statement (.eorAbs a) := ⟨rfl, rfl⟩
theorem Encoded.lsrAbs (a : Addr) : Encoded.Statement (.lsrAbs a) := ⟨rfl, rfl⟩
theorem Encoded.nopHic4F : Encoded.Statement (.nopHic4F) := ⟨rfl, rfl⟩
theorem Encoded.bvc (nn : Byte) : Encoded.Statement (.bvc nn) := ⟨rfl, rfl⟩
theorem Encoded.eorIzy (z : Byte) : Encoded.Statement (.eorIzy z) := ⟨rfl, rfl⟩
theorem Encoded.eorIzp (z : Byte) : Encoded.Statement (.eorIzp z) := ⟨rfl, rfl⟩
theorem Encoded.nopHic53 : Encoded.Statement (.nopHic53) := ⟨rfl, rfl⟩
theorem Encoded.nopZpx54 (z : Byte) : Encoded.Statement (.nopZpx54 z) := ⟨rfl, rfl⟩
theorem Encoded.eorZpx (z : Byte) : Encoded.Statement (.eorZpx z) := ⟨rfl, rfl⟩
theorem Encoded.lsrZpx (z : Byte) : Encoded.Statement (.lsrZpx z) := ⟨rfl, rfl⟩
theorem Encoded.nopHic57 : Encoded.Statement (.nopHic57) := ⟨rfl, rfl⟩
theorem Encoded.cli : Encoded.Statement (.cli) := ⟨rfl, rfl⟩
theorem Encoded.eorAby (a : Addr) : Encoded.Statement (.eorAby a) := ⟨rfl, rfl⟩
theorem Encoded.phy : Encoded.Statement (.phy) := ⟨rfl, rfl⟩
theorem Encoded.nopHic5B : Encoded.Statement (.nopHic5B) := ⟨rfl, rfl⟩
theorem Encoded.nopAbs5C (a : Addr) : Encoded.Statement (.nopAbs5C a) := ⟨rfl, rfl⟩
theorem Encoded.eorAbx (a : Addr) : Encoded.Statement (.eorAbx a) := ⟨rfl, rfl⟩
theorem Encoded.lsrAbx (a : Addr) : Encoded.Statement (.lsrAbx a) := ⟨rfl, rfl⟩
theorem Encoded.nopHic5F : Encoded.Statement (.nopHic5F) := ⟨rfl, rfl⟩
theorem Encoded.rts : Encoded.Statement (.rts) := ⟨rfl, rfl⟩
theorem Encoded.adcIzx (z : Byte) : Encoded.Statement (.adcIzx z) := ⟨rfl, rfl⟩
theorem Encoded.nopImm62 (v : Byte) : Encoded.Statement (.nopImm62 v) := ⟨rfl, rfl⟩
theorem Encoded.nopHic63 : Encoded.Statement (.nopHic63) := ⟨rfl, rfl⟩
theorem Encoded.stzZp (z : Byte) : Encoded.Statement (.stzZp z) := ⟨rfl, rfl⟩
theorem Encoded.adcZp (z : Byte) : Encoded.Statement (.adcZp z) := ⟨rfl, rfl⟩
theorem Encoded.rorZp (z : Byte) : Encoded.Statement (.rorZp z) := ⟨rfl, rfl⟩
theorem Encoded.nopHic67 : Encoded.Statement (.nopHic67) := ⟨rfl, rfl⟩
theorem Encoded.pla : Encoded.Statement (.pla) := ⟨rfl, rfl⟩
theorem Encoded.adcImm (v : Byte) : Encoded.Statement (.adcImm v) := ⟨rfl, rfl⟩
theorem Encoded.rorAcc : Encoded.Statement (.rorAcc) := ⟨rfl, rfl⟩
theorem Encoded.nopHic6B : Encoded.Statement (.nopHic6B) := ⟨rfl, rfl⟩
theorem Encoded.jmpInd (a : Addr) : Encoded.Statement (.jmpInd a) := ⟨rfl, rfl⟩
theorem Encoded.adcAbs (a : Addr) : Encoded.Statement (.adcAbs a) := ⟨rfl, rfl⟩
theorem Encoded.rorAbs (a : Addr) : Encoded.Statement (.rorAbs a) := ⟨rfl, rfl⟩
theorem Encoded.nopHic6F : Encoded.Statement (.nopHic6F) := ⟨rfl, rfl⟩
theorem Encoded.bvs (nn : Byte) : Encoded.Statement (.bvs nn) := ⟨rfl, rfl⟩
theorem Encoded.adcIzy (z : Byte) : Encoded.Statement (.adcIzy z) := ⟨rfl, rfl⟩
theorem Encoded.adcIzp (z : Byte) : Encoded.Statement (.adcIzp z) := ⟨rfl, rfl⟩
theorem Encoded.nopHic73 : Encoded.Statement (.nopHic73) := ⟨rfl, rfl⟩
theorem Encoded.stzZpx (z : Byte) : Encoded.Statement (.stzZpx z) := ⟨rfl, rfl⟩
theorem Encoded.adcZpx (z : Byte) : Encoded.Statement (.adcZpx z) := ⟨rfl, rfl⟩
theorem Encoded.rorZpx (z : Byte) : Encoded.Statement (.rorZpx z) := ⟨rfl, rfl⟩
theorem Encoded.nopHic77 : Encoded.Statement (.nopHic77) := ⟨rfl, rfl⟩
theorem Encoded.sei : Encoded.Statement (.sei) := ⟨rfl, rfl⟩
theorem Encoded.adcAby (a : Addr) : Encoded.Statement (.adcAby a) := ⟨rfl, rfl⟩
theorem Encoded.ply : Encoded.Statement (.ply) := ⟨rfl, rfl⟩
theorem Encoded.nopHic7B : Encoded.Statement (.nopHic7B) := ⟨rfl, rfl⟩
theorem Encoded.jmpIax (a : Addr) : Encoded.Statement (.jmpIax a) := ⟨rfl, rfl⟩
theorem Encoded.adcAbx (a : Addr) : Encoded.Statement (.adcAbx a) := ⟨rfl, rfl⟩
theorem Encoded.rorAbx (a : Addr) : Encoded.Statement (.rorAbx a) := ⟨rfl, rfl⟩
theorem Encoded.nopHic7F : Encoded.Statement (.nopHic7F) := ⟨rfl, rfl⟩
theorem Encoded.bra (nn : Byte) : Encoded.Statement (.bra nn) := ⟨rfl, rfl⟩
theorem Encoded.staIzx (z : Byte) : Encoded.Statement (.staIzx z) := ⟨rfl, rfl⟩
theorem Encoded.nopImm82 (v : Byte) : Encoded.Statement (.nopImm82 v) := ⟨rfl, rfl⟩
theorem Encoded.nopHic83 : Encoded.Statement (.nopHic83) := ⟨rfl, rfl⟩
theorem Encoded.styZp (z : Byte) : Encoded.Statement (.styZp z) := ⟨rfl, rfl⟩
theorem Encoded.staZp (z : Byte) : Encoded.Statement (.staZp z) := ⟨rfl, rfl⟩
theorem Encoded.stxZp (z : Byte) : Encoded.Statement (.stxZp z) := ⟨rfl, rfl⟩
theorem Encoded.nopHic87 : Encoded.Statement (.nopHic87) := ⟨rfl, rfl⟩
theorem Encoded.dey : Encoded.Statement (.dey) := ⟨rfl, rfl⟩
theorem Encoded.bitImm (v : Byte) : Encoded.Statement (.bitImm v) := ⟨rfl, rfl⟩
theorem Encoded.txa : Encoded.Statement (.txa) := ⟨rfl, rfl⟩
theorem Encoded.nopHic8B : Encoded.Statement (.nopHic8B) := ⟨rfl, rfl⟩
theorem Encoded.styAbs (a : Addr) : Encoded.Statement (.styAbs a) := ⟨rfl, rfl⟩
theorem Encoded.staAbs (a : Addr) : Encoded.Statement (.staAbs a) := ⟨rfl, rfl⟩
theorem Encoded.stxAbs (a : Addr) : Encoded.Statement (.stxAbs a) := ⟨rfl, rfl⟩
theorem Encoded.nopHic8F : Encoded.Statement (.nopHic8F) := ⟨rfl, rfl⟩
theorem Encoded.bcc (nn : Byte) : Encoded.Statement (.bcc nn) := ⟨rfl, rfl⟩
theorem Encoded.staIzy (z : Byte) : Encoded.Statement (.staIzy z) := ⟨rfl, rfl⟩
theorem Encoded.staIzp (z : Byte) : Encoded.Statement (.staIzp z) := ⟨rfl, rfl⟩
theorem Encoded.nopHic93 : Encoded.Statement (.nopHic93) := ⟨rfl, rfl⟩
theorem Encoded.styZpx (z : Byte) : Encoded.Statement (.styZpx z) := ⟨rfl, rfl⟩
theorem Encoded.staZpx (z : Byte) : Encoded.Statement (.staZpx z) := ⟨rfl, rfl⟩
theorem Encoded.stxZpy (z : Byte) : Encoded.Statement (.stxZpy z) := ⟨rfl, rfl⟩
theorem Encoded.nopHic97 : Encoded.Statement (.nopHic97) := ⟨rfl, rfl⟩
theorem Encoded.tya : Encoded.Statement (.tya) := ⟨rfl, rfl⟩
theorem Encoded.staAby (a : Addr) : Encoded.Statement (.staAby a) := ⟨rfl, rfl⟩
theorem Encoded.txs : Encoded.Statement (.txs) := ⟨rfl, rfl⟩
theorem Encoded.nopHic9B : Encoded.Statement (.nopHic9B) := ⟨rfl, rfl⟩
theorem Encoded.stzAbs (a : Addr) : Encoded.Statement (.stzAbs a) := ⟨rfl, rfl⟩
theorem Encoded.staAbx (a : Addr) : Encoded.Statement (.staAbx a) := ⟨rfl, rfl⟩
theorem Encoded.stzAbx (a : Addr) : Encoded.Statement (.stzAbx a) := ⟨rfl, rfl⟩
theorem Encoded.nopHic9F : Encoded.Statement (.nopHic9F) := ⟨rfl, rfl⟩
theorem Encoded.ldyImm (v : Byte) : Encoded.Statement (.ldyImm v) := ⟨rfl, rfl⟩
theorem Encoded.ldaIzx (z : Byte) : Encoded.Statement (.ldaIzx z) := ⟨rfl, rfl⟩
theorem Encoded.ldxImm (v : Byte) : Encoded.Statement (.ldxImm v) := ⟨rfl, rfl⟩
theorem Encoded.nopHicA3 : Encoded.Statement (.nopHicA3) := ⟨rfl, rfl⟩
theorem Encoded.ldyZp (z : Byte) : Encoded.Statement (.ldyZp z) := ⟨rfl, rfl⟩
theorem Encoded.ldaZp (z : Byte) : Encoded.Statement (.ldaZp z) := ⟨rfl, rfl⟩
theorem Encoded.ldxZp (z : Byte) : Encoded.Statement (.ldxZp z) := ⟨rfl, rfl⟩
theorem Encoded.nopHicA7 : Encoded.Statement (.nopHicA7) := ⟨rfl, rfl⟩
theorem Encoded.tay : Encoded.Statement (.tay) := ⟨rfl, rfl⟩
theorem Encoded.ldaImm (v : Byte) : Encoded.Statement (.ldaImm v) := ⟨rfl, rfl⟩
theorem Encoded.tax : Encoded.Statement (.tax) := ⟨rfl, rfl⟩
theorem Encoded.nopHicAB : Encoded.Statement (.nopHicAB) := ⟨rfl, rfl⟩
theorem Encoded.ldyAbs (a : Addr) : Encoded.Statement (.ldyAbs a) := ⟨rfl, rfl⟩
theorem Encoded.ldaAbs (a : Addr) : Encoded.Statement (.ldaAbs a) := ⟨rfl, rfl⟩
theorem Encoded.ldxAbs (a : Addr) : Encoded.Statement (.ldxAbs a) := ⟨rfl, rfl⟩
theorem Encoded.nopHicAF : Encoded.Statement (.nopHicAF) := ⟨rfl, rfl⟩
theorem Encoded.bcs (nn : Byte) : Encoded.Statement (.bcs nn) := ⟨rfl, rfl⟩
theorem Encoded.ldaIzy (z : Byte) : Encoded.Statement (.ldaIzy z) := ⟨rfl, rfl⟩
theorem Encoded.ldaIzp (z : Byte) : Encoded.Statement (.ldaIzp z) := ⟨rfl, rfl⟩
theorem Encoded.nopHicB3 : Encoded.Statement (.nopHicB3) := ⟨rfl, rfl⟩
theorem Encoded.ldyZpx (z : Byte) : Encoded.Statement (.ldyZpx z) := ⟨rfl, rfl⟩
theorem Encoded.ldaZpx (z : Byte) : Encoded.Statement (.ldaZpx z) := ⟨rfl, rfl⟩
theorem Encoded.ldxZpy (z : Byte) : Encoded.Statement (.ldxZpy z) := ⟨rfl, rfl⟩
theorem Encoded.nopHicB7 : Encoded.Statement (.nopHicB7) := ⟨rfl, rfl⟩
theorem Encoded.clv : Encoded.Statement (.clv) := ⟨rfl, rfl⟩
theorem Encoded.ldaAby (a : Addr) : Encoded.Statement (.ldaAby a) := ⟨rfl, rfl⟩
theorem Encoded.tsx : Encoded.Statement (.tsx) := ⟨rfl, rfl⟩
theorem Encoded.nopHicBB : Encoded.Statement (.nopHicBB) := ⟨rfl, rfl⟩
theorem Encoded.ldyAbx (a : Addr) : Encoded.Statement (.ldyAbx a) := ⟨rfl, rfl⟩
theorem Encoded.ldaAbx (a : Addr) : Encoded.Statement (.ldaAbx a) := ⟨rfl, rfl⟩
theorem Encoded.ldxAby (a : Addr) : Encoded.Statement (.ldxAby a) := ⟨rfl, rfl⟩
theorem Encoded.nopHicBF : Encoded.Statement (.nopHicBF) := ⟨rfl, rfl⟩
theorem Encoded.cpyImm (v : Byte) : Encoded.Statement (.cpyImm v) := ⟨rfl, rfl⟩
theorem Encoded.cmpIzx (z : Byte) : Encoded.Statement (.cmpIzx z) := ⟨rfl, rfl⟩
theorem Encoded.nopImmC2 (v : Byte) : Encoded.Statement (.nopImmC2 v) := ⟨rfl, rfl⟩
theorem Encoded.nopHicC3 : Encoded.Statement (.nopHicC3) := ⟨rfl, rfl⟩
theorem Encoded.cpyZp (z : Byte) : Encoded.Statement (.cpyZp z) := ⟨rfl, rfl⟩
theorem Encoded.cmpZp (z : Byte) : Encoded.Statement (.cmpZp z) := ⟨rfl, rfl⟩
theorem Encoded.decZp (z : Byte) : Encoded.Statement (.decZp z) := ⟨rfl, rfl⟩
theorem Encoded.nopHicC7 : Encoded.Statement (.nopHicC7) := ⟨rfl, rfl⟩
theorem Encoded.iny : Encoded.Statement (.iny) := ⟨rfl, rfl⟩
theorem Encoded.cmpImm (v : Byte) : Encoded.Statement (.cmpImm v) := ⟨rfl, rfl⟩
theorem Encoded.dex : Encoded.Statement (.dex) := ⟨rfl, rfl⟩
theorem Encoded.nopHicCB : Encoded.Statement (.nopHicCB) := ⟨rfl, rfl⟩
theorem Encoded.cpyAbs (a : Addr) : Encoded.Statement (.cpyAbs a) := ⟨rfl, rfl⟩
theorem Encoded.cmpAbs (a : Addr) : Encoded.Statement (.cmpAbs a) := ⟨rfl, rfl⟩
theorem Encoded.decAbs (a : Addr) : Encoded.Statement (.decAbs a) := ⟨rfl, rfl⟩
theorem Encoded.nopHicCF : Encoded.Statement (.nopHicCF) := ⟨rfl, rfl⟩
theorem Encoded.bne (nn : Byte) : Encoded.Statement (.bne nn) := ⟨rfl, rfl⟩
theorem Encoded.cmpIzy (z : Byte) : Encoded.Statement (.cmpIzy z) := ⟨rfl, rfl⟩
theorem Encoded.cmpIzp (z : Byte) : Encoded.Statement (.cmpIzp z) := ⟨rfl, rfl⟩
theorem Encoded.nopHicD3 : Encoded.Statement (.nopHicD3) := ⟨rfl, rfl⟩
theorem Encoded.nopZpxD4 (z : Byte) : Encoded.Statement (.nopZpxD4 z) := ⟨rfl, rfl⟩
theorem Encoded.cmpZpx (z : Byte) : Encoded.Statement (.cmpZpx z) := ⟨rfl, rfl⟩
theorem Encoded.decZpx (z : Byte) : Encoded.Statement (.decZpx z) := ⟨rfl, rfl⟩
theorem Encoded.nopHicD7 : Encoded.Statement (.nopHicD7) := ⟨rfl, rfl⟩
theorem Encoded.cld : Encoded.Statement (.cld) := ⟨rfl, rfl⟩
theorem Encoded.cmpAby (a : Addr) : Encoded.Statement (.cmpAby a) := ⟨rfl, rfl⟩
theorem Encoded.phx : Encoded.Statement (.phx) := ⟨rfl, rfl⟩
theorem Encoded.nopHicDB : Encoded.Statement (.nopHicDB) := ⟨rfl, rfl⟩
theorem Encoded.nopAbsDC (a : Addr) : Encoded.Statement (.nopAbsDC a) := ⟨rfl, rfl⟩
theorem Encoded.cmpAbx (a : Addr) : Encoded.Statement (.cmpAbx a) := ⟨rfl, rfl⟩
theorem Encoded.decAbx (a : Addr) : Encoded.Statement (.decAbx a) := ⟨rfl, rfl⟩
theorem Encoded.nopHicDF : Encoded.Statement (.nopHicDF) := ⟨rfl, rfl⟩
theorem Encoded.cpxImm (v : Byte) : Encoded.Statement (.cpxImm v) := ⟨rfl, rfl⟩
theorem Encoded.sbcIzx (z : Byte) : Encoded.Statement (.sbcIzx z) := ⟨rfl, rfl⟩
theorem Encoded.nopImmE2 (v : Byte) : Encoded.Statement (.nopImmE2 v) := ⟨rfl, rfl⟩
theorem Encoded.nopHicE3 : Encoded.Statement (.nopHicE3) := ⟨rfl, rfl⟩
theorem Encoded.cpxZp (z : Byte) : Encoded.Statement (.cpxZp z) := ⟨rfl, rfl⟩
theorem Encoded.sbcZp (z : Byte) : Encoded.Statement (.sbcZp z) := ⟨rfl, rfl⟩
theorem Encoded.incZp (z : Byte) : Encoded.Statement (.incZp z) := ⟨rfl, rfl⟩
theorem Encoded.nopHicE7 : Encoded.Statement (.nopHicE7) := ⟨rfl, rfl⟩
theorem Encoded.inx : Encoded.Statement (.inx) := ⟨rfl, rfl⟩
theorem Encoded.sbcImm (v : Byte) : Encoded.Statement (.sbcImm v) := ⟨rfl, rfl⟩
theorem Encoded.nop : Encoded.Statement (.nop) := ⟨rfl, rfl⟩
theorem Encoded.nopHicEB : Encoded.Statement (.nopHicEB) := ⟨rfl, rfl⟩
theorem Encoded.cpxAbs (a : Addr) : Encoded.Statement (.cpxAbs a) := ⟨rfl, rfl⟩
theorem Encoded.sbcAbs (a : Addr) : Encoded.Statement (.sbcAbs a) := ⟨rfl, rfl⟩
theorem Encoded.incAbs (a : Addr) : Encoded.Statement (.incAbs a) := ⟨rfl, rfl⟩
theorem Encoded.nopHicEF : Encoded.Statement (.nopHicEF) := ⟨rfl, rfl⟩
theorem Encoded.beq (nn : Byte) : Encoded.Statement (.beq nn) := ⟨rfl, rfl⟩
theorem Encoded.sbcIzy (z : Byte) : Encoded.Statement (.sbcIzy z) := ⟨rfl, rfl⟩
theorem Encoded.sbcIzp (z : Byte) : Encoded.Statement (.sbcIzp z) := ⟨rfl, rfl⟩
theorem Encoded.nopHicF3 : Encoded.Statement (.nopHicF3) := ⟨rfl, rfl⟩
theorem Encoded.nopZpxF4 (z : Byte) : Encoded.Statement (.nopZpxF4 z) := ⟨rfl, rfl⟩
theorem Encoded.sbcZpx (z : Byte) : Encoded.Statement (.sbcZpx z) := ⟨rfl, rfl⟩
theorem Encoded.incZpx (z : Byte) : Encoded.Statement (.incZpx z) := ⟨rfl, rfl⟩
theorem Encoded.nopHicF7 : Encoded.Statement (.nopHicF7) := ⟨rfl, rfl⟩
theorem Encoded.sed : Encoded.Statement (.sed) := ⟨rfl, rfl⟩
theorem Encoded.sbcAby (a : Addr) : Encoded.Statement (.sbcAby a) := ⟨rfl, rfl⟩
theorem Encoded.plx : Encoded.Statement (.plx) := ⟨rfl, rfl⟩
theorem Encoded.nopHicFB : Encoded.Statement (.nopHicFB) := ⟨rfl, rfl⟩
theorem Encoded.nopAbsFC (a : Addr) : Encoded.Statement (.nopAbsFC a) := ⟨rfl, rfl⟩
theorem Encoded.sbcAbx (a : Addr) : Encoded.Statement (.sbcAbx a) := ⟨rfl, rfl⟩
theorem Encoded.incAbx (a : Addr) : Encoded.Statement (.incAbx a) := ⟨rfl, rfl⟩
theorem Encoded.nopHicFF : Encoded.Statement (.nopHicFF) := ⟨rfl, rfl⟩

end Sys2Proof.Laws
end

