-- ==== Sys2Proof/Machine/HostCalls.lean ====
section
/-! DEFINITION. Machine/HostCalls.lean: the operations of the host, each made between two arbiter steps
(70_reset_and_hazards.md R603, R605, R621; 20_memory.md R105, R106). -/

namespace Sys2Proof.Machine

/-- What a host reset leaves of a timer (R603). -/
def Timer.hostReset (now : Nat) (T : Timer) : Timer :=
  { T with
    enInt := false, enReload := false, enCount := false, clk := 0, done := false, extra := 0
    predicted := none, lastFire := none, base := now }

/-- Whether an action stays in the queue at a host reset (R603). -/
def Action.survivesReset (e : Action) : Bool := e.kind == .endFrame

/-- `reset()` (R603, R539). The CPU's in-flight request is kept; the reset sequence is taken at the next
fetch boundary. -/
def hostReset (s : State) : State :=
  { s with
    mapctl := 0
    seqNext := none
    timers := s.timers.map (Timer.hostReset s.now)
    intPending := 0
    display := { s.display with dispctl := 0, row := none, burst := 0 }
    spr :=
      { s.spr with
        st := .idle, req := none, cont := .none
        video := { s.spr.video with mask := 0 }, coll := { s.spr.coll with mask := 0 } }
    chipA := { s.chipA with suzybusen := 0, sprgo := 0, sprsys := 0 }
    queue := s.queue.filter Action.survivesReset
    cpuRun := .run
    irqMask := { reset := true, nmi := false, irq := false } }

/-- `nmi()` (R621). -/
def hostNmi (s : State) : State := { s with irqMask := { s.irqMask with nmi := true } }

/-- `load(addr, bytes)` (R605): RAM directly, with no cost, action or effect on the predictor. -/
def hostLoad (a : Addr) (bytes : List Byte) (s : State) : State := placeBytes a bytes s

/-- What `process` comes to within a number of arbiter steps. -/
inductive Processed where
  /-- The END_FRAME action was drained: control returns to the host. -/
  | returned (s : State)
  /-- More arbiter steps are needed. -/
  | running (s : State)
  /-- The model stopped. -/
  | stopped (f : Fault)
deriving DecidableEq, Repr

/-- Whether the next arbiter step drains the END_FRAME action due at `t`. -/
def atEndFrame (t : Nat) (s : State) : Bool :=
  due s && s.queue.head? == some { tick := t, kind := .endFrame }

/-- The loop of `process`, up to `fuel` arbiter steps (R105). -/
def processLoop (t : Nat) : Nat → State → Processed
  | 0, s => .running s
  | fuel + 1, s =>
    if atEndFrame t s then .returned (drain s)
    else
      match arbiterStep s with
      | .error f => .stopped f
      | .ok s' => processLoop t fuel s'

/-- `process(n)`, given as many arbiter steps as it takes (R105). -/
def process (fuel n : Nat) (s : State) : Processed :=
  match push s.now (s.now + n) .endFrame s with
  | .next s' => processLoop (s.now + n) fuel s'
  | .fault f => .stopped f
  | .refused _ => .running s

/-- The accumulator of `get_sample` at the start: the host holds it from call to call (R106). -/
def sampleCarryStart : Nat := 0

/-- The ticks `get_sample(rate)` advances by, and the host's accumulator after it (R106). -/
def sampleTicks (acc rate : Nat) : Nat × Nat :=
  ((acc + Config.clockRate) / rate, (acc + Config.clockRate) % rate)

/-- What `get_sample` comes to within a number of arbiter steps. -/
inductive Sampled where
  /-- `process(k)` returned: the audio collaborator's pair, and the host's accumulator. -/
  | returned (left right : Int) (acc : Nat) (s : State)
  /-- More arbiter steps are needed. -/
  | running (acc : Nat) (s : State)
  /-- The model stopped. -/
  | stopped (f : Fault)
  /-- R106 divides by the rate, and gives rate 0 no meaning: nothing was run. Safe. -/
  | zeroRate
deriving DecidableEq, Repr

/-- `get_sample(rate)` with the host's accumulator `acc`, given as many arbiter steps as it takes (R106).
The audio collaborator's `(left, right)` is a free value (R545). -/
def getSample (fuel acc rate : Nat) (s : State) : Sampled :=
  if rate = 0 then .zeroRate
  else
    let q := sampleTicks acc rate
    match process fuel q.1 s with
    | .returned s' =>
      .returned (Config.audioSample s'.draws).1 (Config.audioSample s'.draws).2 q.2 (nextDraw s')
    | .running s' => .running q.2 s'
    | .stopped f => .stopped f

end Sys2Proof.Machine
end

