-- ==== Sys2Proof/Safety.lean ====
section
/-! DEFINITION. Safety.lean: what counts as a safe run, and the terms the statements use. -/

namespace Sys2Proof.Machine

/-! ## Addresses and bytes as the CPU sees them -/

/-- Whether the CPU reaches a chip register at `a` (20_memory.md R81). -/
def onChip (s : State) (a : Addr) : Bool :=
  match regionOf a s.mapctl with
  | .chipA _ => true
  | .chipB _ => true
  | .ram => false
  | .rom _ => false
  | .mapctl => false

/-- The byte a CPU read of `a` would give now (20_memory.md R86). -/
def byteAt (s : State) (a : Addr) : Byte := (busRead a s).1

/-- The 16-bit pointer in page 0 at `z`, which wraps inside page 0 (30_encoding.md R162). -/
def pointerAt (s : State) (z : Byte) : Addr := pair (byteAt s (zext (z + 1))) (byteAt s (zext z))

/-- The 16-bit little-endian value at `a` (20_memory.md R88). -/
def vectorAt (s : State) (a : Addr) : Addr := pair (byteAt s (a + 1)) (byteAt s a)

/-! ## States in which nothing interrupts an instruction -/

/-- The CPU may be advanced, the sprite engine is idle, and no action falls due within the time of `n`
requests to RAM, ROM or MAPCTL. -/
def Quiet (n : Nat) (s : State) : Prop :=
  s.cpuRun = .run ∧ spriteActive s = false ∧ ∀ e ∈ s.queue, s.now + n * Config.slowCost < e.tick

/-- A quiet state in which the discard reads at PC and at PC-1 reach no chip register, and RAM is in
canonical form. -/
def Ready (s : State) : Prop :=
  Quiet 8 s ∧ onChip s s.regs.pc = false ∧ onChip s (s.regs.pc - 1) = false ∧
    Memory.wf 65536 s.ram = true

/-! ## How an instruction completes -/

/-- `t` is `s` at the next fetch boundary with registers `r`; beside the CPU's request and continuation,
only the clock and the sequential predictor may differ. -/
def AtBoundary (s : State) (r : Regs) (t : State) : Prop :=
  t = { s with
        regs := r, req := some { kind := .fetchOpcode, addr := r.pc, value := 0 }, cont := .boundary
        loc := Locals.clear, now := t.now, seqNext := t.seqNext }

/-- The instruction completes with registers `r`, and every byte of memory as before. -/
def Completes (i : Instr) (s : State) (r : Regs) : Prop :=
  ∃ t, exec i s = .next t ∧ AtBoundary s r t

/-- The instruction completes with registers `r`, and RAM byte `b` is `f b`. -/
def CompletesPushing (i : Instr) (s : State) (r : Regs) (f : Addr → Byte) : Prop :=
  ∃ t, exec i s = .next t ∧ AtBoundary { s with ram := t.ram } r t ∧ ∀ b, ramRead t b = f b

/-- The instruction completes with registers `r` and byte `w` written at `a`: to MAPCTL if `a` is 0xFFF9,
and otherwise to the RAM byte at `a`, also where the ROM overlay covers it (20_memory.md R85, R86). Every
other byte of RAM is as before. -/
def CompletesWriting (i : Instr) (s : State) (r : Regs) (a : Addr) (w : Byte) : Prop :=
  ∃ t, exec i s = .next t ∧
    AtBoundary { s with ram := t.ram, mapctl := if a = 0xFFF9#16 then w else s.mapctl } r t ∧
    ∀ b, ramRead t b = if b = a ∧ a ≠ 0xFFF9#16 then w else ramRead s b

/-- The RAM bytes after a push of `v`, with S = `sp` before it (10_state.md R24). -/
def pushed (f : Addr → Byte) (sp v : Byte) : Addr → Byte := fun b => if b = 0x0100#16 + zext sp then v else f b

/-- N and Z as a result sets them (00_scope.md R12). -/
def withNZ (p : Flags) (v : Byte) : Flags := { p with n := v.msb, z := decide (v = 0) }

/-- `P` as a byte, `N:V:1:b:D:I:Z:C`, by the weight of each bit (10_state.md R26). -/
def statusByte (p : Flags) (b : Bool) : Byte :=
  BitVec.ofNat 8
    (128 * p.n.toNat + 64 * p.v.toNat + 32 + 16 * b.toNat + 8 * p.d.toNat + 4 * p.i.toNat +
      2 * p.z.toNat + p.c.toNat)

/-- The flags in a pulled byte (10_state.md R26). -/
def pulledFlags (v : Byte) : Flags :=
  { n := v.getLsbD 7, v := v.getLsbD 6, d := v.getLsbD 3, i := v.getLsbD 2, z := v.getLsbD 1
    c := v.getLsbD 0 }

/-- The stack byte `k` above S (10_state.md R24). -/
def stackByte (s : State) (k : Byte) : Byte := ramRead s (0x0100#16 + zext (s.regs.s + k))

/-- The two-digit BCD byte of a number below 100. -/
def bcd (n : Nat) : Byte := BitVec.ofNat 8 (16 * (n / 10) + n % 10)

/-- `n` sprite steps. -/
def spriteRun : Nat → State → Except Fault State
  | 0, s => .ok s
  | n + 1, s =>
    match spriteStep s with
    | .error f => .error f
    | .ok t => spriteRun n t

/-- The RAM byte a sprite request leaves at its address, if it writes there (20_memory.md R102;
60_exceptions.md R535). -/
def sprWritten (r : SprReq) (old : Byte) : Option Byte :=
  match r.kind with
  | .finish => none
  | .readByte => none
  | .read4Bytes => none
  | .writeByte => some r.data
  | .collRmw => some ((old &&& ~~~r.mask) ||| (r.data &&& r.mask))
  | .videoRmw => some ((old &&& ~~~r.mask) ||| (r.data &&& r.mask))
  | .xorRmw => some (old ^^^ (r.data &&& r.mask))

/-! ## Groups of operand forms -/

/-- The constructors of one operation over the nine operand forms of the accumulator instructions. -/
structure NineForms where
  imm : Byte → Instr
  zp : Byte → Instr
  zpx : Byte → Instr
  izx : Byte → Instr
  izy : Byte → Instr
  izp : Byte → Instr
  abs : Addr → Instr
  abx : Addr → Instr
  aby : Addr → Instr

/-- Every form of the group completes with the registers `f` makes of the old ones and of the byte at the
form's effective address (30_encoding.md R161 to R163). An address on a chip page is the subject of other
statements. -/
def ReadsAs (F : NineForms) (f : Regs → Byte → Regs) : Prop :=
  ∀ (s : State) (z : Byte) (a : Addr), Ready s →
    Completes (F.imm z) s (f s.regs z) ∧
    Completes (F.zp z) s (f s.regs (byteAt s (zext z))) ∧
    Completes (F.zpx z) s (f s.regs (byteAt s (zext (z + s.regs.x)))) ∧
    (onChip s (pointerAt s (z + s.regs.x)) = false →
      Completes (F.izx z) s (f s.regs (byteAt s (pointerAt s (z + s.regs.x))))) ∧
    (onChip s (pointerAt s z + zext s.regs.y) = false →
      Completes (F.izy z) s (f s.regs (byteAt s (pointerAt s z + zext s.regs.y)))) ∧
    (onChip s (pointerAt s z) = false → Completes (F.izp z) s (f s.regs (byteAt s (pointerAt s z)))) ∧
    (onChip s a = false → Completes (F.abs a) s (f s.regs (byteAt s a))) ∧
    (onChip s (a + zext s.regs.x) = false →
      Completes (F.abx a) s (f s.regs (byteAt s (a + zext s.regs.x)))) ∧
    (onChip s (a + zext s.regs.y) = false →
      Completes (F.aby a) s (f s.regs (byteAt s (a + zext s.regs.y))))

/-- LDA. -/
def ldaForms : NineForms :=
  { imm := .ldaImm, zp := .ldaZp, zpx := .ldaZpx, izx := .ldaIzx, izy := .ldaIzy, izp := .ldaIzp
    abs := .ldaAbs, abx := .ldaAbx, aby := .ldaAby }

/-- AND. -/
def andForms : NineForms :=
  { imm := .andImm, zp := .andZp, zpx := .andZpx, izx := .andIzx, izy := .andIzy, izp := .andIzp
    abs := .andAbs, abx := .andAbx, aby := .andAby }

/-- ORA. -/
def oraForms : NineForms :=
  { imm := .oraImm, zp := .oraZp, zpx := .oraZpx, izx := .oraIzx, izy := .oraIzy, izp := .oraIzp
    abs := .oraAbs, abx := .oraAbx, aby := .oraAby }

/-- EOR. -/
def eorForms : NineForms :=
  { imm := .eorImm, zp := .eorZp, zpx := .eorZpx, izx := .eorIzx, izy := .eorIzy, izp := .eorIzp
    abs := .eorAbs, abx := .eorAbx, aby := .eorAby }

/-- ADC. -/
def adcForms : NineForms :=
  { imm := .adcImm, zp := .adcZp, zpx := .adcZpx, izx := .adcIzx, izy := .adcIzy, izp := .adcIzp
    abs := .adcAbs, abx := .adcAbx, aby := .adcAby }

/-- SBC. -/
def sbcForms : NineForms :=
  { imm := .sbcImm, zp := .sbcZp, zpx := .sbcZpx, izx := .sbcIzx, izy := .sbcIzy, izp := .sbcIzp
    abs := .sbcAbs, abx := .sbcAbx, aby := .sbcAby }

/-- CMP. -/
def cmpForms : NineForms :=
  { imm := .cmpImm, zp := .cmpZp, zpx := .cmpZpx, izx := .cmpIzx, izy := .cmpIzy, izp := .cmpIzp
    abs := .cmpAbs, abx := .cmpAbx, aby := .cmpAby }

/-- The constructors of a shift, rotate, increment or decrement over its five operand forms. -/
structure ModifyForms where
  acc : Instr
  zp : Byte → Instr
  zpx : Byte → Instr
  abs : Addr → Instr
  abx : Addr → Instr

/-- The accumulator form replaces A by `f p A`, and every memory form replaces the byte `v` at its effective
address by `f p v`; the flags become `g p` of the old value (40_cpu_machine.md R212). -/
def ModifiesAs (F : ModifyForms) (f : Flags → Byte → Byte) (g : Flags → Byte → Flags) : Prop :=
  ∀ (s : State) (z : Byte) (a : Addr), Ready s →
    Completes F.acc s { s.regs with a := f s.regs.p s.regs.a, p := g s.regs.p s.regs.a } ∧
    CompletesWriting (F.zp z) s { s.regs with p := g s.regs.p (byteAt s (zext z)) } (zext z)
      (f s.regs.p (byteAt s (zext z))) ∧
    CompletesWriting (F.zpx z) s { s.regs with p := g s.regs.p (byteAt s (zext (z + s.regs.x))) }
      (zext (z + s.regs.x)) (f s.regs.p (byteAt s (zext (z + s.regs.x)))) ∧
    (onChip s a = false →
      CompletesWriting (F.abs a) s { s.regs with p := g s.regs.p (byteAt s a) } a
        (f s.regs.p (byteAt s a))) ∧
    (onChip s (a + zext s.regs.x) = false →
      CompletesWriting (F.abx a) s { s.regs with p := g s.regs.p (byteAt s (a + zext s.regs.x)) }
        (a + zext s.regs.x) (f s.regs.p (byteAt s (a + zext s.regs.x))))

/-- ASL. -/
def aslForms : ModifyForms :=
  { acc := .aslAcc, zp := .aslZp, zpx := .aslZpx, abs := .aslAbs, abx := .aslAbx }

/-- LSR. -/
def lsrForms : ModifyForms :=
  { acc := .lsrAcc, zp := .lsrZp, zpx := .lsrZpx, abs := .lsrAbs, abx := .lsrAbx }

/-- ROL. -/
def rolForms : ModifyForms :=
  { acc := .rolAcc, zp := .rolZp, zpx := .rolZpx, abs := .rolAbs, abx := .rolAbx }

/-- ROR. -/
def rorForms : ModifyForms :=
  { acc := .rorAcc, zp := .rorZp, zpx := .rorZpx, abs := .rorAbs, abx := .rorAbx }

/-- INC. -/
def incForms : ModifyForms :=
  { acc := .incAcc, zp := .incZp, zpx := .incZpx, abs := .incAbs, abx := .incAbx }

/-- DEC. -/
def decForms : ModifyForms :=
  { acc := .decAcc, zp := .decZp, zpx := .decZpx, abs := .decAbs, abx := .decAbx }

/-- A read-modify-write instruction in its absolute form, with the byte it writes and the flags it leaves. -/
structure Modifier where
  form : Addr → Instr
  value : Regs → Byte → Byte
  flags : Regs → Byte → Flags

/-- The eight read-modify-write operations (42_alu.md R315, R316; 43_shift_rmw.md R351 to R356). -/
def modifiers : List Modifier :=
  [⟨.incAbs, fun _ v => v + 1, fun r v => withNZ r.p (v + 1)⟩,
    ⟨.decAbs, fun _ v => v - 1, fun r v => withNZ r.p (v - 1)⟩,
    ⟨.aslAbs, fun _ v => v <<< 1, fun r v => { withNZ r.p (v <<< 1) with c := v.msb }⟩,
    ⟨.lsrAbs, fun _ v => v >>> 1, fun r v => { withNZ r.p (v >>> 1) with c := v.getLsbD 0 }⟩,
    ⟨.rolAbs, fun r v => v <<< 1 ||| (if r.p.c then 1 else 0),
      fun r v => { withNZ r.p (v <<< 1 ||| (if r.p.c then 1 else 0)) with c := v.msb }⟩,
    ⟨.rorAbs, fun r v => (if r.p.c then 0x80 else 0) ||| v >>> 1,
      fun r v => { withNZ r.p ((if r.p.c then 0x80 else 0) ||| v >>> 1) with c := v.getLsbD 0 }⟩,
    ⟨.tsbAbs, fun r v => v ||| r.a, fun r v => { r.p with z := decide (r.a &&& v = 0) }⟩,
    ⟨.trbAbs, fun r v => v &&& ~~~r.a, fun r v => { r.p with z := decide (r.a &&& v = 0) }⟩]

/-- The conditional branches, each with the flag test of its rule (44_control.md R382 to R390). -/
def branches : List ((Byte → Instr) × (Flags → Bool)) :=
  [(.bpl, fun p => !p.n), (.bmi, fun p => p.n), (.bvc, fun p => !p.v), (.bvs, fun p => p.v),
    (.bcc, fun p => !p.c), (.bcs, fun p => p.c), (.bne, fun p => !p.z), (.beq, fun p => p.z),
    (.bra, fun _ => true)]

/-- The 64 hiccups (30_encoding.md R169). -/
def hiccups : List Instr :=
  [.nopHic03, .nopHic07, .nopHic0B, .nopHic0F, .nopHic13, .nopHic17, .nopHic1B, .nopHic1F, .nopHic23,
    .nopHic27, .nopHic2B, .nopHic2F, .nopHic33, .nopHic37, .nopHic3B, .nopHic3F, .nopHic43, .nopHic47,
    .nopHic4B, .nopHic4F, .nopHic53, .nopHic57, .nopHic5B, .nopHic5F, .nopHic63, .nopHic67, .nopHic6B,
    .nopHic6F, .nopHic73, .nopHic77, .nopHic7B, .nopHic7F, .nopHic83, .nopHic87, .nopHic8B, .nopHic8F,
    .nopHic93, .nopHic97, .nopHic9B, .nopHic9F, .nopHicA3, .nopHicA7, .nopHicAB, .nopHicAF, .nopHicB3,
    .nopHicB7, .nopHicBB, .nopHicBF, .nopHicC3, .nopHicC7, .nopHicCB, .nopHicCF, .nopHicD3, .nopHicD7,
    .nopHicDB, .nopHicDF, .nopHicE3, .nopHicE7, .nopHicEB, .nopHicEF, .nopHicF3, .nopHicF7, .nopHicFB,
    .nopHicFF]

/-! ## Chip registers -/

/-- The offset of a timer's backup register; its control A, count and control B are at the next three
offsets (10_state.md R37). -/
def timerOffset (n : Fin 12) : Byte :=
  BitVec.ofNat 8 (if n.val < 8 then 4 * n.val else 0x24 + 8 * (n.val - 8))

/-- A 16-bit chip A register that is read and written: the offset of its low byte, and its place in the
state. -/
structure WordReg where
  offset : Byte
  get : ChipA → Addr
  set : Addr → ChipA → ChipA

/-- The 16-bit chip A registers that are read and written (10_state.md R42). -/
def chipAWords : List WordReg :=
  [⟨0x04, ChipA.hoff, fun v c => { c with hoff := v }⟩,
    ⟨0x06, ChipA.voff, fun v c => { c with voff := v }⟩,
    ⟨0x08, ChipA.vidbas, fun v c => { c with vidbas := v }⟩,
    ⟨0x0A, ChipA.collbas, fun v c => { c with collbas := v }⟩,
    ⟨0x10, ChipA.scbnext, fun v c => { c with scbnext := v }⟩,
    ⟨0x12, ChipA.sprdline, fun v c => { c with sprdline := v }⟩,
    ⟨0x14, ChipA.hposstrt, fun v c => { c with hposstrt := v }⟩,
    ⟨0x16, ChipA.vposstrt, fun v c => { c with vposstrt := v }⟩,
    ⟨0x18, ChipA.sprhsiz, fun v c => { c with sprhsiz := v }⟩,
    ⟨0x1A, ChipA.sprvsiz, fun v c => { c with sprvsiz := v }⟩,
    ⟨0x1C, ChipA.stretch, fun v c => { c with stretch := v }⟩,
    ⟨0x1E, ChipA.tilt, fun v c => { c with tilt := v }⟩,
    ⟨0x24, ChipA.colloff, fun v c => { c with colloff := v }⟩]

/-- The chip B offsets of a timer backup, of audio, attenuation, panning and stereo storage, and of the
palette (10_state.md R37). -/
def symmetricB (k : Nat) : Bool :=
  decide (k < 0x20 ∧ k % 4 = 0) || decide (0x20 ≤ k ∧ k < 0x40 ∧ k % 8 ≤ 4) || decide (0x40 ≤ k ∧ k ≤ 0x44) ||
    decide (k = 0x50) || decide (0xA0 ≤ k ∧ k ≤ 0xBF)

/-- The chip B offsets that no register occupies (10_state.md R37). -/
def unassignedB (k : Nat) : Bool :=
  decide (0x45 ≤ k ∧ k < 0x50) || decide (0x51 ≤ k ∧ k < 0x80) || k == 0x82 || k == 0x83 || k == 0x8E ||
    k == 0x8F || decide (0x96 ≤ k ∧ k < 0x9C) || k == 0x9F || decide (0xC0 ≤ k)

/-- The write-only chip B offsets: SDONEACK, CPUSLEEP, DISPCTL, PBKUP, DISPADRL, DISPADRH and MTEST0..2
(10_state.md R37). -/
def writeOnlyB (k : Nat) : Bool := decide (0x90 ≤ k ∧ k ≤ 0x95) || decide (0x9C ≤ k ∧ k ≤ 0x9E)

/-! ## Request counts (70_reset_and_hazards.md R616) -/

/-- The requests of each opcode, from the table of R616 without its "+1" entries; BRA counts as not taken.
Sixteen opcodes a row. -/
def baseRequests : List Nat :=
  [7, 6, 2, 1, 5, 3, 5, 1, 3, 2, 2, 1, 6, 4, 6, 1,
   2, 5, 5, 1, 5, 4, 6, 1, 2, 4, 2, 1, 6, 4, 6, 1,
   6, 6, 2, 1, 3, 3, 5, 1, 4, 2, 2, 1, 4, 4, 6, 1,
   2, 5, 5, 1, 4, 4, 6, 1, 2, 4, 2, 1, 4, 4, 6, 1,
   6, 6, 2, 1, 3, 3, 5, 1, 3, 2, 2, 1, 3, 4, 6, 1,
   2, 5, 5, 1, 4, 4, 6, 1, 2, 4, 3, 1, 8, 4, 6, 1,
   6, 6, 2, 1, 3, 3, 5, 1, 4, 2, 2, 1, 6, 4, 6, 1,
   2, 5, 5, 1, 4, 4, 6, 1, 2, 4, 4, 1, 6, 4, 6, 1,
   2, 6, 2, 1, 3, 3, 3, 1, 2, 2, 2, 1, 4, 4, 4, 1,
   2, 6, 5, 1, 4, 4, 4, 1, 2, 5, 2, 1, 4, 5, 5, 1,
   2, 6, 2, 1, 3, 3, 3, 1, 2, 2, 2, 1, 4, 4, 4, 1,
   2, 5, 5, 1, 4, 4, 4, 1, 2, 4, 2, 1, 4, 4, 4, 1,
   2, 6, 2, 1, 3, 3, 5, 1, 2, 2, 2, 1, 4, 4, 6, 1,
   2, 5, 5, 1, 4, 4, 6, 1, 2, 4, 3, 1, 4, 4, 7, 1,
   2, 6, 2, 1, 3, 3, 5, 1, 2, 2, 2, 1, 4, 4, 6, 1,
   2, 5, 5, 1, 4, 4, 6, 1, 2, 4, 4, 1, 4, 4, 7, 1]

/-- The requests an instruction makes after its operand bytes are fetched, without those of `extraRequests`.
JSR has fetched one operand byte, since it fetches its second one late. -/
def laterRequests (i : Instr) : Nat :=
  match encode i with
  | [] => 0
  | op :: operands =>
    baseRequests.getD op.toNat 0 - 1 - (if op = 0x20 then 1 else operands.length)

/-- One request more if a sum leaves the page of `a`. -/
def ifCrossed (a : Addr) (i : Byte) : Nat := if hiByte a = hiByte (a + zext i) then 0 else 1

/-- The "+1" entries of R616: a page crossed, decimal mode, a branch taken and a branch taken across a page. -/
def extraRequests (i : Instr) (s : State) : Nat :=
  let r := s.regs
  let dec := if r.p.d then 1 else 0
  let taken (b : Bool) (nn : Byte) := if b then (if hiByte (r.pc + sext nn) = hiByte r.pc then 1 else 2) else 0
  match i with
  | .bpl nn => taken (!r.p.n) nn
  | .oraIzy z => ifCrossed (pointerAt s z) r.y
  | .oraAby a => ifCrossed a r.y
  | .oraAbx a => ifCrossed a r.x
  | .aslAbx a => ifCrossed a r.x
  | .bmi nn => taken r.p.n nn
  | .andIzy z => ifCrossed (pointerAt s z) r.y
  | .andAby a => ifCrossed a r.y
  | .bitAbx a => ifCrossed a r.x
  | .andAbx a => ifCrossed a r.x
  | .rolAbx a => ifCrossed a r.x
  | .bvc nn => taken (!r.p.v) nn
  | .eorIzy z => ifCrossed (pointerAt s z) r.y
  | .eorAby a => ifCrossed a r.y
  | .eorAbx a => ifCrossed a r.x
  | .lsrAbx a => ifCrossed a r.x
  | .adcIzx _ => dec
  | .adcZp _ => dec
  | .adcImm _ => dec
  | .adcAbs _ => dec
  | .bvs nn => taken r.p.v nn
  | .adcIzy z => ifCrossed (pointerAt s z) r.y + dec
  | .adcIzp _ => dec
  | .adcZpx _ => dec
  | .adcAby a => ifCrossed a r.y + dec
  | .adcAbx a => ifCrossed a r.x + dec
  | .rorAbx a => ifCrossed a r.x
  | .bra nn => taken true nn
  | .bcc nn => taken (!r.p.c) nn
  | .bcs nn => taken r.p.c nn
  | .ldaIzy z => ifCrossed (pointerAt s z) r.y
  | .ldaAby a => ifCrossed a r.y
  | .ldyAbx a => ifCrossed a r.x
  | .ldaAbx a => ifCrossed a r.x
  | .ldxAby a => ifCrossed a r.y
  | .bne nn => taken (!r.p.z) nn
  | .cmpIzy z => ifCrossed (pointerAt s z) r.y
  | .cmpAby a => ifCrossed a r.y
  | .cmpAbx a => ifCrossed a r.x
  | .sbcIzx _ => dec
  | .sbcZp _ => dec
  | .sbcImm _ => dec
  | .sbcAbs _ => dec
  | .beq nn => taken r.p.z nn
  | .sbcIzy z => ifCrossed (pointerAt s z) r.y + dec
  | .sbcIzp _ => dec
  | .sbcZpx _ => dec
  | .sbcAby a => ifCrossed a r.y + dec
  | .sbcAbx a => ifCrossed a r.x + dec
  | _ => 0

/-! ## Invariants

Each is kept by every step from every state that has it, and holds after reset. -/

/-- RAM and the stored chip registers are in canonical form. -/
def memoryWf (s : State) : Bool :=
  Memory.wf 65536 s.ram && Memory.wf 256 s.chipB && Memory.wf 256 s.chipA.other

/-- Exactly one CPU request is in flight, of the kind the continuation waits on, and a fetch is at PC
(40_cpu_machine.md R200, R216). -/
def CpuWaits (s : State) : Prop :=
  ∃ r, s.req = some r ∧ s.cont.kind = some r.kind ∧
    (r.kind = .fetchOpcode ∨ r.kind = .fetchOperand → r.addr = s.regs.pc)

/-- While the sprite engine owns the bus it has one request, of a kind its continuation point waits on
(60_exceptions.md R531). -/
def SpriteWaits (s : State) : Prop :=
  spriteActive s = true → ∃ r, s.spr.req = some r ∧ s.spr.cont.awaits r.kind = true

/-- The CPU is stalled exactly while the sprite engine owns the bus (10_state.md R30). -/
def StalledWhileSprite (s : State) : Prop := s.cpuRun = .stalled ↔ spriteActive s = true

/-- A timer that predicts a fire may be scheduled, predicts it from its base and count, and has the action
of that fire in the queue (60_exceptions.md R480, R481). -/
def TimersScheduled (s : State) : Prop :=
  ∀ (n : Fin 12) (f : Nat), (timer s n).predicted = some f →
    (timer s n).runs = true ∧ f = (timer s n).base + (timer s n).delay ∧
      { tick := f, kind := .timer n } ∈ s.queue

/-- The interrupt level is in the CPU's mask, or an action that will put it there is in the queue
(60_exceptions.md R502). -/
def LevelTold (s : State) : Prop :=
  s.irqMask.irq = irqLine s ∨ ∃ e ∈ s.queue, e.kind = .irqUpdate

/-- A sleeping CPU with an interrupt pending has the action that wakes it in the queue
(60_exceptions.md R540, R541). -/
def SleepEnds (s : State) : Prop :=
  s.cpuRun = .sleep → irqLine s = true → ∃ e ∈ s.queue, e.kind = .irqUpdate

/-- At most ten bursts were delivered, an open row is visible, and the DMA address is a multiple of four
(60_exceptions.md R511, R512, R514). -/
def DisplayInRange (s : State) : Prop :=
  s.display.burst ≤ 10 ∧ (∀ r, s.display.row = some r → r.toNat < 102) ∧ s.display.dmaAddr &&& 3 = 0

/-- The invariant of the machine. -/
structure Inv (s : State) : Prop where
  memory : memoryWf s = true
  rom : s.rom.length = 512
  queue : Queue.sorted s.queue = true
  cpu : CpuWaits s
  sprite : SpriteWaits s
  stalled : StalledWhileSprite s
  timers : TimersScheduled s
  level : LevelTold s
  sleep : SleepEnds s
  display : DisplayInRange s

end Sys2Proof.Machine
end

