-- ==== Sys2Proof/Certificates/Slice0/Obligations.lean ====
section
/-! DEFINITION. Certificates/Slice0/Obligations.lean: the statements for the provers, from the numbered
rules of the spec. The operand bytes of an instruction are fetched before its meaning runs, so PC stands
after them. That one step runs an instruction to its end when nothing falls due (`Quiet`, `Ready`) is the
model's own grouping of the spec's steps, log entry 18; StepIsArbiterSteps says that nothing is lost by it. -/

open Sys2Proof Sys2Proof.Machine

/-! ## Encoding -/

/-- R160, R167, R168: decoding the bytes of any instruction, whatever follows them, gives it back. -/
def Obligations.DecodeInvertsEncode : Prop :=
  ∀ (i : Instr) (rest : List Byte), decode (encode i ++ rest) = .ok (i, rest)

/-- R160, R168: the bytes a decoding used are the encoding of what it gave, every opcode byte followed by
enough operand bytes is decoded with the length its opcode fixes, and too few bytes are refused by name. -/
def Obligations.DecodingIsTotalAndExact : Prop :=
  (∀ (bs : List Byte) (i : Instr) (rest : List Byte), decode bs = .ok (i, rest) → encode i ++ rest = bs) ∧
    ∀ op b₁ b₂ : Byte,
      (∃ i, decode [op, b₁, b₂] = .ok (i, [op, b₁, b₂].drop (opLength op))) ∧
        (1 < opLength op → decode [op] = .error .missingOperand) ∧
        (2 < opLength op → decode [op, b₁] = .error .missingOperand) ∧
        decode [] = .error .noOpcode

/-- Words written out from the map of R167, one or more from each family. -/
def Obligations.WordsDecode : Prop :=
  decodeTableWord 8 0xEA = some .nop ∧ decodeTableWord 16 0x80A9 = some (.ldaImm 0x80) ∧
    decodeTableWord 24 0x1234AD = some (.ldaAbs 0x1234) ∧ decodeTableWord 24 0x20008D = some (.staAbs 0x2000) ∧
    decodeTableWord 16 0x4669 = some (.adcImm 0x46) ∧ decodeTableWord 16 0x10F1 = some (.sbcIzy 0x10) ∧
    decodeTableWord 8 0x0A = some .aslAcc ∧ decodeTableWord 24 0x30001C = some (.trbAbs 0x3000) ∧
    decodeTableWord 16 0xFB10 = some (.bpl 0xFB) ∧ decodeTableWord 24 0x030020 = some (.jsr 0x0300) ∧
    decodeTableWord 24 0x12FF6C = some (.jmpInd 0x12FF) ∧ decodeTableWord 8 0x40 = some .rti ∧
    decodeTableWord 16 0x7700 = some (.brk 0x77) ∧ decodeTableWord 8 0x78 = some .sei ∧
    decodeTableWord 8 0xDA = some .phx ∧ decodeTableWord 24 0x12345C = some (.nopAbs5C 0x1234) ∧
    decodeTableWord 8 0xCB = some .nopHicCB

/-! ## Power-on -/

/-- The power-on values that R600 states, but for PC, which the next statement gives. -/
def Obligations.ResetState : Prop :=
  State.reset.now = 0 ∧ State.reset.queue = [] ∧
    State.reset.irqMask = { reset := false, nmi := false, irq := false } ∧
    State.reset.req = some { kind := .read, addr := 0xFFFC, value := 0 } ∧
    State.reset.cpuRun = .run ∧ State.reset.seqNext = none ∧ State.reset.mapctl = 0 ∧
    (∀ i : Fin 512, State.reset.rom[i.val]? = some (Config.bootRom i.val)) ∧ State.reset.rom.length = 512 ∧
    (∀ n : Fin 12,
      (timer State.reset n).base = 0 ∧ (timer State.reset n).enInt = false ∧
        (timer State.reset n).enReload = false ∧ (timer State.reset n).enCount = false ∧
        (timer State.reset n).clk = 0 ∧ (timer State.reset n).done = false ∧
        (timer State.reset n).extra = 0 ∧ (timer State.reset n).predicted = none ∧
        (timer State.reset n).lastFire = none) ∧
    State.reset.intPending = 0 ∧ State.reset.display.dispctl = 0 ∧ State.reset.display.row = none ∧
    State.reset.display.burst = 0 ∧ State.reset.display.flushed = 0 ∧ State.reset.display.lineTick = 0 ∧
    State.reset.display.burstTick = Vector.replicate 10 0 ∧ State.reset.spr.st = .idle ∧
    State.reset.spr.req = none ∧ State.reset.spr.video.mask = 0 ∧ State.reset.spr.coll.mask = 0 ∧
    State.reset.chipA.suzybusen = 0 ∧ State.reset.chipA.sprgo = 0 ∧ State.reset.chipA.sprsys = 0

/-- R462, R602: the first step from power-on makes the two vector reads, sets I, clears D, and leaves the
CPU about to fetch its first opcode at the vector in the ROM; A, X, Y, S, N, V, Z and C are as they were,
and the two reads cost `slow_cost` and `fast_cost`. -/
def Obligations.PowerOnSequence : Prop :=
  step State.reset =
    .next
      { State.reset with
        regs :=
          { State.reset.regs with
            pc := pair (Config.bootRom 0x1FD) (Config.bootRom 0x1FC)
            p := { State.reset.regs.p with i := true, d := false } }
        req :=
          some { kind := .fetchOpcode, addr := pair (Config.bootRom 0x1FD) (Config.bootRom 0x1FC), value := 0 }
        cont := .boundary, now := Config.slowCost + Config.fastCost, seqNext := some 0xFFFE }

/-! ## Loads, stores, transfers, stack -/

/-- R261: LDA in its nine forms. -/
def Obligations.LdaCompletes : Prop :=
  ReadsAs ldaForms (fun r v => { r with a := v, p := withNZ r.p v })

/-- R262, R263: LDX and LDY in their five forms each. -/
def Obligations.LdxLdyComplete : Prop :=
  ∀ (s : State) (z : Byte) (a : Addr), Ready s →
    let ldx (v : Byte) : Regs := { s.regs with x := v, p := withNZ s.regs.p v }
    let ldy (v : Byte) : Regs := { s.regs with y := v, p := withNZ s.regs.p v }
    Completes (.ldxImm z) s (ldx z) ∧
    Completes (.ldxZp z) s (ldx (byteAt s (zext z))) ∧
    Completes (.ldxZpy z) s (ldx (byteAt s (zext (z + s.regs.y)))) ∧
    (onChip s a = false → Completes (.ldxAbs a) s (ldx (byteAt s a))) ∧
    (onChip s (a + zext s.regs.y) = false →
      Completes (.ldxAby a) s (ldx (byteAt s (a + zext s.regs.y)))) ∧
    Completes (.ldyImm z) s (ldy z) ∧
    Completes (.ldyZp z) s (ldy (byteAt s (zext z))) ∧
    Completes (.ldyZpx z) s (ldy (byteAt s (zext (z + s.regs.x)))) ∧
    (onChip s a = false → Completes (.ldyAbs a) s (ldy (byteAt s a))) ∧
    (onChip s (a + zext s.regs.x) = false →
      Completes (.ldyAbx a) s (ldy (byteAt s (a + zext s.regs.x))))

/-- R264, R85, R83: STA in its eight forms writes A at the form's effective address and nothing else. -/
def Obligations.StaCompletes : Prop :=
  ∀ (s : State) (z : Byte) (a : Addr), Ready s →
    CompletesWriting (.staZp z) s s.regs (zext z) s.regs.a ∧
    CompletesWriting (.staZpx z) s s.regs (zext (z + s.regs.x)) s.regs.a ∧
    (onChip s a = false → CompletesWriting (.staAbs a) s s.regs a s.regs.a) ∧
    (onChip s (a + zext s.regs.x) = false →
      CompletesWriting (.staAbx a) s s.regs (a + zext s.regs.x) s.regs.a) ∧
    (onChip s (a + zext s.regs.y) = false →
      CompletesWriting (.staAby a) s s.regs (a + zext s.regs.y) s.regs.a) ∧
    (onChip s (pointerAt s (z + s.regs.x)) = false →
      CompletesWriting (.staIzx z) s s.regs (pointerAt s (z + s.regs.x)) s.regs.a) ∧
    (onChip s (pointerAt s z + zext s.regs.y) = false →
      CompletesWriting (.staIzy z) s s.regs (pointerAt s z + zext s.regs.y) s.regs.a) ∧
    (onChip s (pointerAt s z) = false →
      CompletesWriting (.staIzp z) s s.regs (pointerAt s z) s.regs.a)

/-- R265 to R267: STX, STY and STZ in every form. -/
def Obligations.StxStyStzComplete : Prop :=
  ∀ (s : State) (z : Byte) (a : Addr), Ready s →
    CompletesWriting (.stxZp z) s s.regs (zext z) s.regs.x ∧
    CompletesWriting (.stxZpy z) s s.regs (zext (z + s.regs.y)) s.regs.x ∧
    (onChip s a = false → CompletesWriting (.stxAbs a) s s.regs a s.regs.x) ∧
    CompletesWriting (.styZp z) s s.regs (zext z) s.regs.y ∧
    CompletesWriting (.styZpx z) s s.regs (zext (z + s.regs.x)) s.regs.y ∧
    (onChip s a = false → CompletesWriting (.styAbs a) s s.regs a s.regs.y) ∧
    CompletesWriting (.stzZp z) s s.regs (zext z) 0 ∧
    CompletesWriting (.stzZpx z) s s.regs (zext (z + s.regs.x)) 0 ∧
    (onChip s a = false → CompletesWriting (.stzAbs a) s s.regs a 0) ∧
    (onChip s (a + zext s.regs.x) = false →
      CompletesWriting (.stzAbx a) s s.regs (a + zext s.regs.x) 0)

/-- R268 to R273, R317 to R320, R421 to R427: the instructions that change registers and flags alone. -/
def Obligations.RegisterOpsComplete : Prop :=
  ∀ s : State, Ready s →
    let r := s.regs
    Completes .tax s { r with x := r.a, p := withNZ r.p r.a } ∧
    Completes .tay s { r with y := r.a, p := withNZ r.p r.a } ∧
    Completes .txa s { r with a := r.x, p := withNZ r.p r.x } ∧
    Completes .tya s { r with a := r.y, p := withNZ r.p r.y } ∧
    Completes .tsx s { r with x := r.s, p := withNZ r.p r.s } ∧
    Completes .txs s { r with s := r.x } ∧
    Completes .inx s { r with x := r.x + 1, p := withNZ r.p (r.x + 1) } ∧
    Completes .iny s { r with y := r.y + 1, p := withNZ r.p (r.y + 1) } ∧
    Completes .dex s { r with x := r.x - 1, p := withNZ r.p (r.x - 1) } ∧
    Completes .dey s { r with y := r.y - 1, p := withNZ r.p (r.y - 1) } ∧
    Completes .clc s { r with p := { r.p with c := false } } ∧
    Completes .sec s { r with p := { r.p with c := true } } ∧
    Completes .cli s { r with p := { r.p with i := false } } ∧
    Completes .sei s { r with p := { r.p with i := true } } ∧
    Completes .cld s { r with p := { r.p with d := false } } ∧
    Completes .sed s { r with p := { r.p with d := true } } ∧
    Completes .clv s { r with p := { r.p with v := false } }

/-- R274 to R281, R24, R466: a push writes one byte at 0x0100 + S and decrements S, a pull increments S and
reads there; PHP pushes with B = 1, and PLP loads all six flags. -/
def Obligations.StackOpsComplete : Prop :=
  ∀ s : State, Ready s →
    let r := s.regs
    let v := stackByte s 1
    CompletesPushing .pha s { r with s := r.s - 1 } (pushed (ramRead s) r.s r.a) ∧
    CompletesPushing .phx s { r with s := r.s - 1 } (pushed (ramRead s) r.s r.x) ∧
    CompletesPushing .phy s { r with s := r.s - 1 } (pushed (ramRead s) r.s r.y) ∧
    CompletesPushing .php s { r with s := r.s - 1 } (pushed (ramRead s) r.s (statusByte r.p true)) ∧
    Completes .pla s { r with s := r.s + 1, a := v, p := withNZ r.p v } ∧
    Completes .plx s { r with s := r.s + 1, x := v, p := withNZ r.p v } ∧
    Completes .ply s { r with s := r.s + 1, y := v, p := withNZ r.p v } ∧
    Completes .plp s { r with s := r.s + 1, p := pulledFlags v }

/-! ## Arithmetic, logic, compare -/

/-- R307 to R309: AND, ORA and EOR in their nine forms each. -/
def Obligations.LogicCompletes : Prop :=
  ReadsAs andForms (fun r v => { r with a := r.a &&& v, p := withNZ r.p (r.a &&& v) }) ∧
    ReadsAs oraForms (fun r v => { r with a := r.a ||| v, p := withNZ r.p (r.a ||| v) }) ∧
    ReadsAs eorForms (fun r v => { r with a := r.a ^^^ v, p := withNZ r.p (r.a ^^^ v) })

/-- R305: ADC in its nine forms, binary or decimal as D says; the sums are those of R301 and R302. -/
def Obligations.AdcCompletes : Prop :=
  ReadsAs adcForms (fun r v =>
    let q := if r.p.d then addDec r.a v r.p.c else addBin r.a v r.p.c
    { r with a := q.value, p := { withNZ r.p q.value with c := q.c, v := q.v } })

/-- R306: SBC in its nine forms, binary or decimal as D says; the differences are those of R303 and R304. -/
def Obligations.SbcCompletes : Prop :=
  ReadsAs sbcForms (fun r v =>
    let q := if r.p.d then subDec r.a v r.p.c else subBin r.a v r.p.c
    { r with a := q.value, p := { withNZ r.p q.value with c := q.c, v := q.v } })

/-- R301 to R304: the binary sum and difference are exact modulo 256, C is the carry out or the missing
borrow, V says that the signed result does not fit in a byte; the decimal sum and difference are those of the
rules for all bytes, with V of the sum from the signed sum of the high digits and C and V of the difference
as in binary; on BCD digits they add and subtract decimal numbers modulo 100. -/
def Obligations.ArithmeticIsRight : Prop :=
  (∀ (a b : Byte) (c : Bool),
    (addBin a b c).value.toNat + 256 * (addBin a b c).c.toNat = a.toNat + b.toNat + c.toNat ∧
    ((addBin a b c).v = true ↔
      a.toInt + b.toInt + (c.toNat : Int) < -128 ∨ 127 < a.toInt + b.toInt + (c.toNat : Int)) ∧
    (subBin a b c).value = a - b - (if c then 0 else 1) ∧
    ((subBin a b c).c = true ↔ b.toNat + (1 - c.toNat) ≤ a.toNat) ∧
    ((subBin a b c).v = true ↔
      a.toInt - b.toInt - 1 + (c.toNat : Int) < -128 ∨ 127 < a.toInt - b.toInt - 1 + (c.toNat : Int))) ∧
  (∀ (a b : Byte) (c : Bool),
    let low := a.toNat % 16 + b.toNat % 16 + c.toNat
    let al := if low < 10 then low else (low + 6) % 16 + 16
    let sum := 16 * (a.toNat / 16) + 16 * (b.toNat / 16) + al
    let signed := (a &&& 0xF0).toInt + (b &&& 0xF0).toInt + (al : Int)
    (addDec a b c).value = BitVec.ofNat 8 (if sum < 0xA0 then sum else sum + 0x60) ∧
    ((addDec a b c).c = true ↔ 0xA0 ≤ sum) ∧
    ((addDec a b c).v = true ↔ signed < -128 ∨ 127 < signed)) ∧
  (∀ (a b : Byte) (c : Bool),
    let borrow := 1 - c.toNat
    (subDec a b c).value =
      a - b - BitVec.ofNat 8 borrow - (if a.toNat < b.toNat + borrow then 0x60 else 0) -
        (if a.toNat % 16 < b.toNat % 16 + borrow then 0x06 else 0) ∧
    (subDec a b c).c = (subBin a b c).c ∧ (subDec a b c).v = (subBin a b c).v) ∧
  ∀ (x y : Nat) (c : Bool), x < 100 → y < 100 →
    (addDec (bcd x) (bcd y) c).value = bcd ((x + y + c.toNat) % 100) ∧
    ((addDec (bcd x) (bcd y) c).c = true ↔ 100 ≤ x + y + c.toNat) ∧
    (subDec (bcd x) (bcd y) c).value = bcd ((x + 99 + c.toNat - y) % 100) ∧
    ((subDec (bcd x) (bcd y) c).c = true ↔ y + (1 - c.toNat) ≤ x)

/-- R310 to R313: CMP in its nine forms, CPX and CPY in their three each. -/
def Obligations.ComparesComplete : Prop :=
  let cmp (r : Regs) (x v : Byte) : Regs :=
    { r with p := { withNZ r.p (x - v) with c := decide (v.toNat ≤ x.toNat) } }
  ReadsAs cmpForms (fun r v => cmp r r.a v) ∧
    ∀ (s : State) (z : Byte) (a : Addr), Ready s →
      let r := s.regs
      Completes (.cpxImm z) s (cmp r r.x z) ∧
      Completes (.cpxZp z) s (cmp r r.x (byteAt s (zext z))) ∧
      (onChip s a = false → Completes (.cpxAbs a) s (cmp r r.x (byteAt s a))) ∧
      Completes (.cpyImm z) s (cmp r r.y z) ∧
      Completes (.cpyZp z) s (cmp r r.y (byteAt s (zext z))) ∧
      (onChip s a = false → Completes (.cpyAbs a) s (cmp r r.y (byteAt s a)))

/-- R314: BIT in its five forms; the immediate form leaves N and V. -/
def Obligations.BitCompletes : Prop :=
  ∀ (s : State) (z : Byte) (a : Addr), Ready s →
    let r := s.regs
    let bit (v : Byte) : Regs :=
      { r with p := { r.p with z := decide (r.a &&& v = 0), n := v.msb, v := v.getLsbD 6 } }
    Completes (.bitImm z) s { r with p := { r.p with z := decide (r.a &&& z = 0) } } ∧
    Completes (.bitZp z) s (bit (byteAt s (zext z))) ∧
    Completes (.bitZpx z) s (bit (byteAt s (zext (z + r.x)))) ∧
    (onChip s a = false → Completes (.bitAbs a) s (bit (byteAt s a))) ∧
    (onChip s (a + zext r.x) = false → Completes (.bitAbx a) s (bit (byteAt s (a + zext r.x))))

/-! ## Read-modify-write -/

/-- R351 to R354: ASL, LSR, ROL and ROR in their five forms each. -/
def Obligations.ShiftsComplete : Prop :=
  ModifiesAs aslForms (fun _ v => v <<< 1) (fun p v => { withNZ p (v <<< 1) with c := v.msb }) ∧
    ModifiesAs lsrForms (fun _ v => v >>> 1) (fun p v => { withNZ p (v >>> 1) with c := v.getLsbD 0 }) ∧
    ModifiesAs rolForms (fun p v => v <<< 1 ||| (if p.c then 1 else 0))
      (fun p v => { withNZ p (v <<< 1 ||| (if p.c then 1 else 0)) with c := v.msb }) ∧
    ModifiesAs rorForms (fun p v => (if p.c then 0x80 else 0) ||| v >>> 1)
      (fun p v => { withNZ p ((if p.c then 0x80 else 0) ||| v >>> 1) with c := v.getLsbD 0 })

/-- R315, R316: INC and DEC in their five forms each; C and V are unchanged. -/
def Obligations.IncDecComplete : Prop :=
  ModifiesAs incForms (fun _ v => v + 1) (fun p v => withNZ p (v + 1)) ∧
    ModifiesAs decForms (fun _ v => v - 1) (fun p v => withNZ p (v - 1))

/-- R355, R356: TSB and TRB; Z alone is written. -/
def Obligations.TsbTrbComplete : Prop :=
  ∀ (s : State) (z : Byte) (a : Addr), Ready s →
    let r := s.regs
    let tested (v : Byte) : Regs := { r with p := { r.p with z := decide (r.a &&& v = 0) } }
    CompletesWriting (.tsbZp z) s (tested (byteAt s (zext z))) (zext z) (byteAt s (zext z) ||| r.a) ∧
    CompletesWriting (.trbZp z) s (tested (byteAt s (zext z))) (zext z) (byteAt s (zext z) &&& ~~~r.a) ∧
    (onChip s a = false →
      CompletesWriting (.tsbAbs a) s (tested (byteAt s a)) a (byteAt s a ||| r.a)) ∧
    (onChip s a = false →
      CompletesWriting (.trbAbs a) s (tested (byteAt s a)) a (byteAt s a &&& ~~~r.a))

/-! ## No-operations and control transfer -/

/-- R428 to R431, R433, R434: the official NOP and the documented illegal ones change nothing. The address
that opcode 0x5C reads five times is a parameter, log entry 8. With nothing queued, DC and FC make one read
and 5C makes five, of whatever answers there, each at its own tick and its own cost. -/
def Obligations.NopsComplete : Prop :=
  (∀ (s : State) (v : Byte) (a : Addr), Ready s →
    Completes .nop s s.regs ∧ Completes (.nopImm02 v) s s.regs ∧ Completes (.nopImm22 v) s s.regs ∧
    Completes (.nopImm42 v) s s.regs ∧ Completes (.nopImm62 v) s s.regs ∧
    Completes (.nopImm82 v) s s.regs ∧ Completes (.nopImmC2 v) s s.regs ∧
    Completes (.nopImmE2 v) s s.regs ∧ Completes (.nopZp44 v) s s.regs ∧
    Completes (.nopZpx54 v) s s.regs ∧ Completes (.nopZpxD4 v) s s.regs ∧
    Completes (.nopZpxF4 v) s s.regs ∧
    (onChip s a = false → Completes (.nopAbsDC a) s s.regs ∧ Completes (.nopAbsFC a) s s.regs) ∧
    (onChip s (Config.nop5cAddr (hiByte a) (loByte a)) = false → Completes (.nopAbs5C a) s s.regs)) ∧
  ∀ (s : State) (a : Addr), s.queue = [] → turn s = .cpu →
    let look (b : Addr) (t : State) : State := (serve { kind := .read, addr := b, value := 0 } t).2
    let done (t : State) : State :=
      { t with
        req := some { kind := .fetchOpcode, addr := s.regs.pc, value := 0 }, cont := .boundary
        loc := Locals.clear }
    let b := Config.nop5cAddr (hiByte a) (loByte a)
    exec (.nopAbsDC a) s = .next (done (look a s)) ∧ exec (.nopAbsFC a) s = .next (done (look a s)) ∧
      exec (.nopAbs5C a) s = .next (done (look b (look b (look b (look b (look b s))))))

/-- R432, R169: in every state, each of the 64 hiccups asks for the next opcode and does nothing else. -/
def Obligations.HiccupsRefetch : Prop :=
  ∀ i ∈ hiccups, ∀ s : State,
    exec i s =
      .next
        { s with
          req := some { kind := .fetchOpcode, addr := s.regs.pc, value := 0 }, cont := .boundary
          loc := Locals.clear }

/-- R381 to R390: a branch goes to the sum of the next instruction's address and the signed displacement
if its flag test holds, and to the next instruction otherwise. -/
def Obligations.BranchesComplete : Prop :=
  ∀ (s : State) (nn : Byte), Ready s → ∀ b ∈ branches,
    Completes (b.1 nn) s
      (if b.2 s.regs.p then { s.regs with pc := s.regs.pc + nn.signExtend 16 } else s.regs)

/-- R391: the three jumps. -/
def Obligations.JumpsComplete : Prop :=
  ∀ (s : State) (a : Addr), Ready s →
    Completes (.jmpAbs a) s { s.regs with pc := a } ∧
    (onChip s a = false → onChip s (a + 1) = false →
      Completes (.jmpInd a) s { s.regs with pc := vectorAt s a }) ∧
    (onChip s (a + zext s.regs.x) = false → onChip s (a + zext s.regs.x + 1) = false →
      Completes (.jmpIax a) s { s.regs with pc := vectorAt s (a + zext s.regs.x) })

/-- R392, R393: JSR pushes the address of its third byte, high byte first, and reads that byte after the
pushes; RTS pulls the address and goes to the byte after it. PC stands at JSR's third byte (log entry 20). -/
def Obligations.JsrRtsComplete : Prop :=
  ∀ (s : State) (a : Addr), Ready s →
    let r := s.regs
    let ram := pushed (pushed (ramRead s) r.s (hiByte r.pc)) (r.s - 1) (loByte r.pc)
    let hh := if regionOf r.pc s.mapctl = .ram then ram r.pc else byteAt s r.pc
    let back := pair (stackByte s 2) (stackByte s 1)
    CompletesPushing (.jsr a) s { r with s := r.s - 2, pc := pair hh (loByte a) } ram ∧
    (onChip s back = false → Completes .rts s { r with s := r.s + 2, pc := back + 1 })

/-- R395, R394, R466: BRK pushes PC and the flags with B = 1, sets I, clears D and goes to the IRQ vector;
RTI pulls the flags and PC. -/
def Obligations.BrkRtiComplete : Prop :=
  ∀ (s : State) (sig : Byte), Ready s →
    let r := s.regs
    CompletesPushing (.brk sig) s
      { r with s := r.s - 3, pc := vectorAt s 0xFFFE, p := { r.p with i := true, d := false } }
      (pushed (pushed (pushed (ramRead s) r.s (hiByte r.pc)) (r.s - 1) (loByte r.pc)) (r.s - 2)
        (statusByte r.p true)) ∧
    Completes .rti s
      { r with
        s := r.s + 3, pc := pair (stackByte s 3) (stackByte s 2), p := pulledFlags (stackByte s 1) }

/-- R616, R617, R110: with no chip on the bus and the sequential cost off, every instruction takes
`slow_cost` for each request that R616 counts beyond those of its opcode and operand bytes. -/
def Obligations.RequestCounts : Prop :=
  ∀ (i : Instr) (s : State), Ready s →
    s.mapctl.getLsbD 0 = true → s.mapctl.getLsbD 1 = true → s.mapctl.getLsbD 7 = true →
    ∃ t, exec i s = .next t ∧
      t.now = s.now + (laterRequests i + extraRequests i s) * Config.slowCost

/-! ## The bus -/

/-- R81: the region of every address. -/
def Obligations.AddressDecoding : Prop :=
  ∀ (a : Addr) (m : Byte),
    (a.toNat = 0xFFF9 → regionOf a m = .mapctl) ∧
    (a.toNat = 0xFFF8 → regionOf a m = .ram) ∧
    (0xFFFA ≤ a.toNat → regionOf a m = if m.getLsbD 3 then .ram else .rom (a.toNat - 0xFE00)) ∧
    (0xFE00 ≤ a.toNat → a.toNat ≤ 0xFFF7 →
      regionOf a m = if m.getLsbD 2 then .ram else .rom (a.toNat - 0xFE00)) ∧
    (0xFD00 ≤ a.toNat → a.toNat ≤ 0xFDFF →
      regionOf a m = if m.getLsbD 1 then .ram else .chipB (BitVec.ofNat 8 (a.toNat - 0xFD00))) ∧
    (0xFC00 ≤ a.toNat → a.toNat ≤ 0xFCFF →
      regionOf a m = if m.getLsbD 0 then .ram else .chipA (BitVec.ofNat 8 (a.toNat - 0xFC00))) ∧
    (a.toNat < 0xFC00 → regionOf a m = .ram)

/-- R85: a CPU write under the ROM overlay. -/
def Obligations.RomOverlay : Prop :=
  ∀ (s : State) (a : Addr) (v : Byte) (i : Nat),
    regionOf a s.mapctl = .rom i → Memory.wf 65536 s.ram = true →
    ramRead (busWrite a v s) a = v ∧ (busWrite a v s).rom = s.rom ∧
      byteAt (busWrite a v s) a = byteAt s a ∧
      ∀ m, regionOf a m = .ram → byteAt { busWrite a v s with mapctl := m } a = v

/-- R110, R111: the cost of a request, and the predictor after it, after a DMA burst, after a sprite run,
at power-on and after a host reset. -/
def Obligations.CostAndPredictor : Prop :=
  (∀ (r : Request) (s : State),
    (∀ o, regionOf r.addr s.mapctl = .chipA o → cost r s = Config.chipCost .a r.kind r.addr) ∧
    (∀ o, regionOf r.addr s.mapctl = .chipB o → cost r s = Config.chipCost .b r.kind r.addr) ∧
    (regionOf r.addr s.mapctl = .mapctl → cost r s = Config.slowCost) ∧
    ((regionOf r.addr s.mapctl).isMemory = true →
      cost r s =
        if r.kind = .write then Config.slowCost
        else if s.mapctl.getLsbD 7 = false ∧ s.seqNext = some r.addr then Config.fastCost
        else Config.slowCost) ∧
    (serve r s).2.now = s.now + cost r s ∧
    (serve r s).2.seqNext =
      if (regionOf r.addr s.mapctl).isMemory = true ∧ r.kind ≠ .write then some (r.addr + 1) else none) ∧
  (∀ (t : Nat) (s : State), (dmaBurst t s).seqNext = none) ∧
  (∀ s : State, (finishRun s).seqNext = none ∧ (hostReset s).seqNext = none) ∧
  State.reset.seqNext = none ∧ 0 < Config.fastCost ∧ Config.fastCost < Config.slowCost ∧
  ∀ c k a, 1 ≤ Config.chipCost c k a

/-- R103, R86, R37, R42: STA to a chip register performs that register's write at the present tick, and
takes the chip's cost. -/
def Obligations.ChipStores : Prop :=
  ∀ (s : State) (o : Byte), turn s = .cpu →
    (s.mapctl.getLsbD 1 = false →
      exec (.staAbs (pair 0xFD o)) s =
        .next
          { chipBWrite o s.regs.a s.now s with
            req := some { kind := .fetchOpcode, addr := s.regs.pc, value := 0 }, cont := .boundary
            loc := Locals.clear, seqNext := none
            now := s.now + Config.chipCost .b .write (pair 0xFD o) }) ∧
    (s.mapctl.getLsbD 0 = false →
      exec (.staAbs (pair 0xFC o)) s =
        .next
          { chipAWrite o s.regs.a s with
            req := some { kind := .fetchOpcode, addr := s.regs.pc, value := 0 }, cont := .boundary
            loc := Locals.clear, seqNext := none
            now := s.now + Config.chipCost .a .write (pair 0xFC o) })

/-- R103, R86, R37, R42: LDA from a chip register performs that register's read at the present tick. -/
def Obligations.ChipLoads : Prop :=
  ∀ (s : State) (o : Byte), turn s = .cpu →
    let loaded (v : Byte) : Regs := { s.regs with a := v, p := withNZ s.regs.p v }
    (s.mapctl.getLsbD 1 = false →
      exec (.ldaAbs (pair 0xFD o)) s =
        .next
          { (chipBRead o s.now s).2 with
            regs := loaded (chipBRead o s.now s).1
            req := some { kind := .fetchOpcode, addr := s.regs.pc, value := 0 }, cont := .boundary
            loc := Locals.clear, seqNext := none
            now := s.now + Config.chipCost .b .read (pair 0xFD o) }) ∧
    (s.mapctl.getLsbD 0 = false →
      exec (.ldaAbs (pair 0xFC o)) s =
        .next
          { (chipARead o s).2 with
            regs := loaded (chipARead o s).1
            req := some { kind := .fetchOpcode, addr := s.regs.pc, value := 0 }, cont := .boundary
            loc := Locals.clear, seqNext := none
            now := s.now + Config.chipCost .a .read (pair 0xFC o) })

/-- R212, R103: a read-modify-write instruction on a chip register reads it twice and writes it once, each at
its own tick, with the value and the flags of the first byte read. -/
def Obligations.ChipModifies : Prop :=
  ∀ (s : State) (a : Addr), s.queue = [] → turn s = .cpu → onChip s a = true → ∀ m ∈ modifiers,
    let later (k : ReqKind) (t : State) : State :=
      { t with now := t.now + cost { kind := k, addr := a, value := 0 } s, seqNext := none }
    let v := byteAt s a
    let s₁ := later .read (busRead a s).2
    let s₂ := later .read (busRead a s₁).2
    let s₃ := later .write (busWrite a (m.value s.regs v) s₂)
    exec (m.form a) s =
      .next
        { s₃ with
          regs := { s.regs with p := m.flags s.regs v }
          req := some { kind := .fetchOpcode, addr := s.regs.pc, value := 0 }, cont := .boundary
          loc := Locals.clear }

/-- R37, R42, R84, R484 to R487, R520, R545, R546: what the chip registers read as, and what a write leaves.
A timer backup, a palette register and a storage register read back as written; control A reads back but for
bit 6; a count reads the current or the frozen count; bit 3 of control B is `done`; the 16-bit chip A
registers read back their bytes; SCBADR is the current SCB's address; bit 0 of SPRSYS reads 0; write-only and
unassigned registers read 0xFF. -/
def Obligations.ChipRoundTrip : Prop :=
  (∀ (s : State) (o v : Byte) (t u : Nat),
    (symmetricB o.toNat = true → memoryWf s = true → (chipBRead o u (chipBWrite o v t s)).1 = v) ∧
    (unassignedB o.toNat = true → chipBRead o u s = (0xFF, s) ∧ chipBWrite o v t s = s) ∧
    (writeOnlyB o.toNat = true → chipBRead o u s = (0xFF, s))) ∧
  (∀ (s : State) (n : Fin 12) (v : Byte) (t u : Nat),
    let o := timerOffset n
    let T := timer s n
    chipBRead o u s = (T.backup, s) ∧
    chipBRead (o + 1) u s =
      (BitVec.ofNat 8
        (128 * (if n.val < 8 then T.enInt else T.extra.getLsbD 1).toNat + 32 * (T.extra.getLsbD 0).toNat +
          16 * T.enReload.toNat + 8 * T.enCount.toNat + T.clk.toNat), s) ∧
    (chipBRead (o + 1) u (chipBWrite (o + 1) v t s)).1 = v &&& 0xBF ∧
    chipBRead (o + 2) u s =
      (if T.predicted = none then T.count
        else T.count - BitVec.ofNat 8 ((u - T.base) / (16 * 2 ^ T.clk.toNat)), s) ∧
    (chipBRead (o + 2) t (chipBWrite (o + 2) v t s)).1 = v ∧
    (chipBRead (o + 3) u s).1.getLsbD 3 = T.done ∧
    (chipBRead (o + 3) u (chipBWrite (o + 3) v t s)).1.getLsbD 3 = v.getLsbD 3 ∧
    (memoryWf s = true →
      hiNib (chipBRead (o + 3) u (chipBWrite (o + 3) v t s)).1 = if n.val < 8 then 0 else hiNib v)) ∧
  (∀ (s : State) (v : Byte), ∀ w ∈ chipAWords,
    let c := s.chipA
    chipAWrite w.offset v s = { s with chipA := w.set (pair (hiByte (w.get c)) v) c } ∧
    chipAWrite (w.offset + 1) v s = { s with chipA := w.set (pair v (loByte (w.get c))) c } ∧
    chipARead w.offset s = (loByte (w.get c), s) ∧ chipARead (w.offset + 1) s = (hiByte (w.get c), s)) ∧
  (∀ (s : State) (v : Byte),
    let c := s.chipA
    chipARead 0x2C s = (loByte s.spr.scbAddr, s) ∧ chipARead 0x2D s = (hiByte s.spr.scbAddr, s) ∧
    (∀ o ∈ ([0x80, 0x81, 0x82, 0x90, 0x91] : List Byte), chipARead o s = (0xFF, s)) ∧
    (chipARead 0x92 s).1.getLsbD 0 = false ∧
    chipAWrite 0x80 v s = { s with chipA := { c with sprctl0 := v } } ∧
    chipAWrite 0x81 v s = { s with chipA := { c with sprctl1 := v } } ∧
    chipAWrite 0x82 v s = { s with chipA := { c with sprcoll := v } } ∧
    chipAWrite 0x90 v s = { s with chipA := { c with suzybusen := v } } ∧
    chipAWrite 0x91 v s = { s with chipA := { c with sprgo := v } } ∧
    chipAWrite 0x92 v s = { s with chipA := { c with sprsys := v } }) ∧
  ∀ (s : State) (v : Byte) (t : Nat),
    let d := s.display
    chipBWrite 0x92 v t s = { s with display := { d with dispctl := v } } ∧
    chipBWrite 0x94 v t s = { s with display := { d with dispadr := pair (hiByte d.dispadr) v } } ∧
    chipBWrite 0x95 v t s = { s with display := { d with dispadr := pair v (loByte d.dispadr) } }

/-! ## The arbiter and the event queue -/

/-- R100, R101, R104, R107: a due event comes first, then the sprite engine; when neither it nor the CPU
can step, the clock jumps to the next event, and without one the machine is stuck. -/
def Obligations.StepPriority : Prop :=
  ∀ s : State,
    (∀ e q, s.queue = e :: q → e.tick ≤ s.now → step s = .next (handle e { s with queue := q })) ∧
    ((∀ e q, s.queue = e :: q → s.now < e.tick) →
      (spriteActive s = true → step s = outcome (spriteStep s)) ∧
      (spriteActive s = false → s.cpuRun ≠ .run →
        (∀ e q, s.queue = e :: q → step s = .next { s with now := e.tick }) ∧
        (s.queue = [] → step s = .fault .stuck)))

/-- R91: `push`. -/
def Obligations.PushRule : Prop :=
  ∀ (asked t : Nat) (k : Kind) (s : State),
    (t < asked → push asked t k s = .fault .pastSchedule) ∧
    (asked ≤ t → ∃ q, push asked t k s = .next { s with queue := q } ∧
      q.Perm ({ tick := t, kind := k } :: s.queue))

/-- R92: an ordered queue stays ordered when an action is pushed, and `pop` removes one action that no
other precedes. That the queue, which R21 makes a multiset, is held as an ordered list is the model's own
choice (log entry 5). -/
def Obligations.QueueOrder : Prop :=
  (∀ (e : Action) (q : List Action), Queue.sorted q = true → Queue.sorted (insertAction e q) = true) ∧
    ∀ (s t : State) (e : Action), Queue.sorted s.queue = true → pop s = some (e, t) →
      s.queue.Perm (e :: t.queue) ∧ Queue.sorted t.queue = true ∧ t = { s with queue := t.queue } ∧
        ∀ x ∈ t.queue, e.tick < x.tick ∨ e.tick = x.tick ∧ e.kind.tag ≤ x.kind.tag

/-- R203, R204, R209: at a fetch boundary where no interrupt is taken, with the bytes at PC decoding to `i`,
the step is `exec i` after the operand fetches: PC has moved past the bytes fetched (all of them, but for
JSR's third), and beside the clock, the predictor and the request under way nothing has changed. -/
def Obligations.StepRunsInstruction : Prop :=
  ∀ (s : State) (i : Instr) (rest : List Byte),
    let pc := s.regs.pc
    let op := byteAt s pc
    let fetched := if op = 0x20 then 2 else opLength op
    Quiet 3 s → s.cont = .boundary → s.req = some { kind := .fetchOpcode, addr := pc, value := 0 } →
    interruptFor s.irqMask s.regs = none →
    (∀ k, k < opLength op → onChip s (pc + BitVec.ofNat 16 k) = false) →
    decode [op, byteAt s (pc + 1), byteAt s (pc + 2)] = .ok (i, rest) →
    ∃ f, step s = exec i f ∧
      f = { s with
            regs := { s.regs with pc := pc + BitVec.ofNat 16 fetched }
            now := f.now, seqNext := f.seqNext, req := f.req, cont := f.cont } ∧
      s.now + fetched * Config.fastCost ≤ f.now ∧ f.now ≤ s.now + fetched * Config.slowCost

/-- R100, R200: a step of the machine is one or more arbiter steps of R100, each of one event or one
request; and it faults exactly when the first of them does. -/
def Obligations.StepIsArbiterSteps : Prop :=
  (∀ s t : State, step s = .next t → ∃ n, 0 < n ∧ arbiterRun n s = .ok t) ∧
    ∀ (s : State) (f : Fault), step s = .fault f ↔ arbiterStep s = .error f

/-! ## Interrupts and reset at a fetch boundary -/

/-- R456, R457, R458, R463: with no reset pending, an NMI, or else an IRQ with I = 0, is taken at a fetch
boundary: PC, not advanced, and the flags with B = 0 are pushed, I is set and D cleared, PC comes from the
vector, and NMI is acknowledged. -/
def Obligations.InterruptEntry : Prop :=
  ∀ s : State, Ready s → s.cont = .boundary →
    s.req = some { kind := .fetchOpcode, addr := s.regs.pc, value := 0 } →
    s.irqMask.reset = false → (s.irqMask.nmi = true ∨ s.irqMask.irq = true ∧ s.regs.p.i = false) →
    let r := s.regs
    let vector : Addr := if s.irqMask.nmi then 0xFFFA else 0xFFFE
    ∃ t, step s = .next t ∧
      AtBoundary { s with irqMask := { s.irqMask with nmi := false }, ram := t.ram }
        { r with s := r.s - 3, pc := vectorAt s vector, p := { r.p with i := true, d := false } } t ∧
      ∀ b, ramRead t b =
        pushed (pushed (pushed (ramRead s) r.s (hiByte r.pc)) (r.s - 1) (loByte r.pc)) (r.s - 2)
          (statusByte r.p false) b

/-- R461, R463: a reset pending at a fetch boundary comes before NMI and IRQ: no push, I set, D cleared, PC
from the reset vector; A, X, Y, S, N, V, Z, C and memory are kept, and RESET alone is acknowledged. -/
def Obligations.ResetEntry : Prop :=
  ∀ s : State, Ready s → s.cont = .boundary →
    s.req = some { kind := .fetchOpcode, addr := s.regs.pc, value := 0 } → s.irqMask.reset = true →
    ∃ t, step s = .next t ∧
      AtBoundary { s with irqMask := { s.irqMask with reset := false } }
        { s.regs with pc := vectorAt s 0xFFFC, p := { s.regs.p with i := true, d := false } } t

/-- R603, R539: what a host reset sets and what it keeps. -/
def Obligations.HostResetState : Prop :=
  ∀ s : State,
    let t := hostReset s
    t.mapctl = 0 ∧ t.seqNext = none ∧ t.intPending = 0 ∧
    t.irqMask = { reset := true, nmi := false, irq := false } ∧ t.display.dispctl = 0 ∧
    t.display.row = none ∧ t.display.burst = 0 ∧ t.spr.st = .idle ∧ t.spr.req = none ∧
    t.spr.video.mask = 0 ∧ t.spr.coll.mask = 0 ∧ t.chipA.suzybusen = 0 ∧ t.chipA.sprgo = 0 ∧
    t.chipA.sprsys = 0 ∧ t.cpuRun = .run ∧
    (∀ e, e ∈ t.queue ↔ e ∈ s.queue ∧ e.kind = .endFrame) ∧
    (∀ n, (timer t n).enInt = false ∧ (timer t n).enReload = false ∧ (timer t n).enCount = false ∧
      (timer t n).clk = 0 ∧ (timer t n).done = false ∧ (timer t n).extra = 0 ∧
      (timer t n).predicted = none ∧ (timer t n).lastFire = none ∧ (timer t n).base = s.now ∧
      (timer t n).backup = (timer s n).backup ∧ (timer t n).count = (timer s n).count) ∧
    t.ram = s.ram ∧ t.rom = s.rom ∧ t.palette = s.palette ∧ t.regs = s.regs ∧ t.req = s.req ∧
    t.cont = s.cont ∧ t.loc = s.loc ∧ t.now = s.now ∧ t.display.dispadr = s.display.dispadr ∧
    t.display.dmaAddr = s.display.dmaAddr ∧
    t.chipA = { s.chipA with suzybusen := 0, sprgo := 0, sprsys := 0 }

/-! ## Timers and interrupt status -/

/-- R491: a backup write of `B`, then a control A write that enables counting at tick `u`, schedules one
fire, at `u + (B + 1) * 16 * 2^clk`; the fire reloads the count and schedules the next, or leaves the timer
done with nothing scheduled. The timer was not counting before, and is not left done without reload; a backup
write loads the count, as it does while the parameter BACKUP_LOADS_COUNT is at its default (log entry 8). -/
def Obligations.TimerProperty : Prop :=
  ∀ (s : State) (n : Fin 12) (B v : Byte) (t u : Nat),
    (timer s n).enCount = false → (timer s n).predicted = none → B ≠ 0 → v.getLsbD 3 = true →
    v.toNat % 8 ≠ 7 → (v.getLsbD 6 = true ∨ (timer s n).done = false ∨ v.getLsbD 4 = true) →
    let s' := ctlaWrite n v u (backupWrite true n B t s)
    let period := (B.toNat + 1) * 16 * 2 ^ (v.toNat % 8)
    let T := timer (timerEvent n (u + period) s') n
    (timer s' n).predicted = some (u + period) ∧
    { tick := u + period, kind := .timer n } ∈ s'.queue ∧
    (∀ x, x ≠ u + period → timerEvent n x s' = s') ∧ T.done = true ∧
    (v.getLsbD 4 = true → T.count = B ∧ T.predicted = some (u + period + period)) ∧
    (v.getLsbD 4 = false → T.predicted = none)

/-- R482: what a fire leaves of its own timer, whatever it drives and whatever is linked below it. -/
def Obligations.FireAndRearm : Prop :=
  ∀ (s : State) (n : Fin 12) (t : Nat),
    let T := timer s n
    let arms := T.enReload && T.enCount && decide (T.clk ≠ 7) && decide (T.backup ≠ 0)
    let next := t + (T.backup.toNat + 1) * (16 * 2 ^ T.clk.toNat)
    timer (timerFire n t s) n =
      { T with
        lastFire := some t, done := true, borrowOut := true
        count := if T.enReload then T.backup else 0
        base := if T.enReload then t else T.base
        predicted := if arms then some next else none } ∧
    (arms = true → { tick := next, kind := .timer n } ∈ (timerFire n t s).queue)

/-- R490: a stale fire has no effect, and no timer register write takes an action out of the queue. -/
def Obligations.StaleFireIgnored : Prop :=
  ∀ (s : State) (n : Fin 12) (t : Nat),
    ((timer s n).predicted ≠ some t → timerEvent n t s = s) ∧
    ∀ (v : Byte) (e : Action), e ∈ s.queue →
      e ∈ (backupWrite Config.backupLoadsCount n v t s).queue ∧ e ∈ (ctlaWrite n v t s).queue ∧
        e ∈ (countWrite n v t s).queue ∧ e ∈ (ctlbWrite n v t s).queue

/-- R483, R482: the fire of a timer counts the linked timer below it down by one, or makes it fire if its
count is 0; a timer below that is not linked, or not counting, is left alone. -/
def Obligations.LinkedBorrow : Prop :=
  ∀ (s : State) (n d : Fin 12) (t : Nat), downstream n = some d →
    let D := timer s d
    let takes := decide (D.clk = 7) && D.enCount && !(D.done && !D.enReload)
    let D' := timer (timerFire n t s) d
    (takes = false → D' = D) ∧
    (takes = true → D.count ≠ 0 → D' = { D with borrowIn := true, count := D.count - 1 }) ∧
    (takes = true → D.count = 0 →
      D'.borrowIn = true ∧ D'.done = true ∧ D'.borrowOut = true ∧ D'.lastFire = some t ∧
        D'.predicted = none ∧ D'.count = if D.enReload then D.backup else 0)

/-- R489, R452, R502: a fire of a system timer with its interrupt enabled makes its bit pending, takes no
pending bit away, and, if the bit was not pending, has the level told at the tick of the fire. -/
def Obligations.TimerInterrupt : Prop :=
  ∀ (s : State) (n : Fin 12) (t : Nat),
    (∀ k, s.intPending.getLsbD k = true → (timerFire n t s).intPending.getLsbD k = true) ∧
    (n.val < 8 → (timer s n).enInt = true →
      (timerFire n t s).intPending.getLsbD n.val = true ∧
      (s.intPending.getLsbD n.val = false →
        { tick := t, kind := .irqUpdate } ∈ (timerFire n t s).queue))

/-- R500, R501, R502, R541: INTRST and INTSET read the pending bits; INTRST clears and INTSET sets the bits
written 1, a change is told at its tick, and the handler copies the level and wakes a sleeping CPU. -/
def Obligations.InterruptStatus : Prop :=
  ∀ (s : State) (v : Byte) (t : Nat),
    let told (w : Byte) : State :=
      { s with
        intPending := w
        queue := if w = s.intPending then s.queue else insertAction { tick := t, kind := .irqUpdate } s.queue }
    chipBRead 0x80 t s = (s.intPending, s) ∧ chipBRead 0x81 t s = (s.intPending, s) ∧
    chipBWrite 0x80 v t s = told (s.intPending &&& ~~~v) ∧
    chipBWrite 0x81 v t s = told (s.intPending ||| v) ∧
    handle { tick := t, kind := .irqUpdate } s =
      { s with
        irqMask := { s.irqMask with irq := decide (s.intPending ≠ 0) }
        cpuRun := if s.intPending ≠ 0 ∧ s.cpuRun = .sleep then .run else s.cpuRun }

/-! ## Display -/

/-- R511, R512, R513, R515: hblank finishes the open row, latches the DMA address at row 0, and opens a
visible row while DMA is enabled, with its first burst due; vblank finishes the open row, closes it and hands
the frame over, which the model records in `out` (log entry 9). If the ten bursts of the open row are not due
before the hblank, or were not all drained, or are not due within the period timer 0 is set to, the frame is
free (log entry 14). -/
def Obligations.HblankAndVblank : Prop :=
  (∀ (s : State) (t : Nat) (r : Byte),
    let d := s.display
    let h := hblank t r s
    let opens := d.dispctl.getLsbD 0 && decide (r.toNat < 102)
    let late :=
      decide (d.burst < 10 ∨ t ≤ d.lineTick + Config.dmaFirstOffset + 9 * Config.dmaBurstInterval)
    (d.row = none → h.display.frame = d.frame ∧ h.display.broken = d.broken) ∧
    (∀ q, d.row = some q →
      (late = false →
        h.display.frame = (finishLine t q s).display.frame ∧ h.display.broken = d.broken) ∧
      (late = true →
        h.display.broken = true ∧
        (∀ p, p < 160 → framePixel h.display.frame q.toNat p = Config.freeColour (s.draws + 1) p) ∧
        ∀ k p, k ≠ q.toNat →
          framePixel h.display.frame k p = Config.freeColour s.draws (k * 160 + p))) ∧
    h.display.dmaAddr = (if r = 0 then d.dispadr &&& 0xFFFC else d.dmaAddr) ∧
    (opens = true →
      h.display.row = some r ∧ h.display.burst = 0 ∧ h.display.lineTick = t ∧
        h.queue = insertAction { tick := t + Config.dmaFirstOffset, kind := .dma } s.queue) ∧
    (opens = false → h.display.row = none ∧ h.queue = s.queue) ∧
    h.ram = s.ram ∧ h.regs = s.regs ∧ h.timers = s.timers ∧ h.now = s.now ∧ h.out = s.out) ∧
  (∀ (s : State) (t : Nat),
    let v := vblank t s
    v.display.row = none ∧ v.queue = s.queue ∧ v.out = .frame t v.display.frame :: s.out ∧
    (s.display.row = none → v.display.frame = s.display.frame) ∧
    ∀ q, s.display.row = some q → v.display.frame = (finishLine t q s).display.frame) ∧
  ∀ (s : State) (t : Nat),
    let T := timer s 0
    let short :=
      T.enReload && T.enCount && decide (T.clk ≠ 7) && decide (T.backup ≠ 0) &&
        decide ((T.backup.toNat + 1) * (16 * 2 ^ T.clk.toNat) ≤
          Config.dmaFirstOffset + 9 * Config.dmaBurstInterval)
    let s' : State :=
      if short then
        { s with
          display := { s.display with broken := true, frame := { rows := [], draw := s.draws } }
          draws := s.draws + 1 }
      else s
    triggerDevice 0 t s = hblank t ((timer s 2).backup - (timer s 2).count) s' ∧
      triggerDevice 2 t s = vblank t s'

/-- R96, R514: a burst into an open row stores eight bytes of RAM, moves the DMA address on, and has the
next burst due unless it was the tenth; with no row open the bytes are dropped. -/
def Obligations.BurstStoresBytes : Prop :=
  ∀ (s : State) (t : Nat),
    let d := s.display
    let s' := dmaBurst t s
    s'.now = s.now + Config.dmaBurstCost ∧ s'.seqNext = none ∧ s'.ram = s.ram ∧
    (d.row = none → s'.display = d ∧ s'.queue = s.queue) ∧
    (d.row ≠ none → d.burst < 10 →
      s'.display.burst = d.burst + 1 ∧ s'.display.dmaAddr = d.dmaAddr + 8 ∧ s'.display.row = d.row ∧
      s'.display.burstTick[d.burst]? = some t ∧
      (∀ k : Nat, k < 8 →
        s'.display.lineBytes[8 * d.burst + k]? = some (ramRead s (d.dmaAddr + BitVec.ofNat 16 k))) ∧
      (∀ k : Nat, k < 8 * d.burst ∨ 8 * d.burst + 8 ≤ k →
        s'.display.lineBytes[k]? = d.lineBytes[k]?) ∧
      s'.queue =
        if d.burst + 1 < 10 then
          insertAction { tick := t + Config.dmaBurstInterval, kind := .dma } s.queue
        else s.queue)

/-- R520 to R522, R524, R611: finishing a row gives each pixel whose burst was delivered the colour that the
palette held at the tick the pixel was emitted, and leaves every other row alone; a palette write of GREENc or
BLUEREDc changes the colour `c` in force from its tick on, and no colour in force before its tick. The row was
opened in the mode the spec defines, and R513 was not broken (log entries 14 and 15). -/
def Obligations.FinishedRow : Prop :=
  (∀ (s : State) (t : Nat) (r : Byte) (p : Nat),
    p < 160 → p / 16 < s.display.burst → definedMode s.display.lineMode = true → s.display.broken = false →
    framePixel (finishLine t r s).display.frame r.toNat p =
      colourAt s.palette
        (min (s.display.burstTick.toList.getD (p / 16) 0 + p % 16 * Config.ticksPerPixel) t)
        (if p % 2 = 0 then hiNib (s.display.lineBytes.toList.getD (p / 2) 0)
          else loNib (s.display.lineBytes.toList.getD (p / 2) 0))) ∧
  (∀ (s : State) (t : Nat) (r : Byte) (q p : Nat), q ≠ r.toNat →
    framePixel (finishLine t r s).display.frame q p = framePixel s.display.frame q p) ∧
  (∀ (s : State) (t x : Nat) (o v : Byte) (c : Nibble), x < t →
    colourAt (paletteWrite t o v s).palette x c = colourAt s.palette x c) ∧
  ∀ (s : State) (t x : Nat) (v : Byte) (c c' : Nibble), t ≤ x →
    let old := colourAt s.palette x
    let green := colourAt (chipBWrite (0xA0#8 + c.setWidth 8) v t s).palette x
    let blueRed := colourAt (chipBWrite (0xB0#8 + c.setWidth 8) v t s).palette x
    green c = loNib v ++ (old c).extractLsb' 0 8 ∧ blueRed c = (old c).extractLsb' 8 4 ++ hiNib v ++ loNib v ∧
      (c' ≠ c → green c' = old c' ∧ blueRed c' = old c')

/-! ## Sprite engine and sleep -/

/-- R530, R540, R533: a write of CPUSLEEP starts a sprite run if SPRGO and SUZYBUSEN say so, and otherwise
puts the CPU to sleep unless an interrupt is pending; FINISH gives the bus back to the CPU. -/
def Obligations.SleepAndSpriteRun : Prop :=
  ∀ (s : State) (v : Byte) (t : Nat),
    let w := chipBWrite 0x91 v t s
    let starts := s.chipA.sprgo.getLsbD 0 && s.chipA.suzybusen.getLsbD 0
    (starts = true → w.cpuRun = .stalled ∧ spriteActive w = true ∧ w.ram = s.ram ∧ w.regs = s.regs) ∧
    (starts = false → s.intPending = 0 → w = { s with cpuRun := .sleep }) ∧
    (starts = false → s.intPending ≠ 0 → w = s) ∧
    (s.spr.cont = .finish → s.spr.req = some { kind := .finish, addr := 0, mask := 0, data := 0 } →
      ∃ f, spriteStep s = .ok f ∧ f.spr.st = .finished ∧ f.chipA.sprgo = s.chipA.sprgo &&& 0xFE ∧
        f.cpuRun = .run ∧ f.seqNext = none ∧ f.now = s.now + Config.sprCost .finish ∧ f.ram = s.ram)

/-- R537, R532: from the head of the walk, a sprite with its skip bit set takes exactly five one-byte reads;
nothing is written, and the walk stands at the next SCB, or at FINISH if its address has a null high
byte. -/
def Obligations.SkippedSprite : Prop :=
  ∀ s : State,
    let scb := s.chipA.scbnext
    let next := pair (ramRead s (scb + 4)) (ramRead s (scb + 3))
    hiByte scb ≠ 0 → s.spr.coll.mask = 0 → s.spr.video.mask = 0 →
    (ramRead s (scb + 1)).getLsbD 2 = true →
    ∃ t, spriteRun 5 (walkAgain s) = .ok t ∧ t.ram = s.ram ∧ t.chipA.scbnext = next ∧
      t.now = s.now + 5 * Config.sprCost .readByte ∧ spriteActive t = true ∧
      t.spr.req =
        some (if hiByte next = 0 then { kind := .finish, addr := 0, mask := 0, data := 0 }
          else { kind := .readByte, addr := next, mask := 0, data := 0 })

/-- R102, R535: a sprite step changes RAM only where its request writes, and there as the kind of the
request says. -/
def Obligations.SpriteStepWrites : Prop :=
  ∀ (s t : State) (r : SprReq), Memory.wf 65536 s.ram = true → s.spr.req = some r → spriteStep s = .ok t →
    ∀ b, ramRead t b =
      if b = r.addr then (sprWritten r (ramRead s b)).getD (ramRead s b) else ramRead s b

/-! ## Invariants of every step -/

/-- The invariant holds after power-on. Beside what R600 states it rests on the model's own choices: the
canonical form of memory (log entry 2), the zero of `dma_addr`, which R600 leaves unspecified (log entry 4),
and the ordered queue (log entry 5). -/
def Obligations.InvHoldsAtReset : Prop := Inv State.reset

/-- R32, R92, R33, R20: every step keeps memory in canonical form and the queue in order, never changes the
ROM, and never moves the clock back. The canonical form and the ordered queue are the model's way of holding
them (log entries 2 and 5). -/
def Obligations.MemoryQueueKept : Prop :=
  ∀ s t : State, step s = .next t →
    (memoryWf s = true → memoryWf t = true) ∧
    (Queue.sorted s.queue = true → Queue.sorted t.queue = true) ∧ t.rom = s.rom ∧ s.now ≤ t.now

/-- R200, R216, R531, R30: every step leaves exactly one CPU request in flight, of the kind that is waited
for; the sprite engine has a request while it owns the bus, and then alone is the CPU stalled. -/
def Obligations.ProtocolKept : Prop :=
  ∀ s t : State, CpuWaits s → SpriteWaits s → StalledWhileSprite s → step s = .next t →
    CpuWaits t ∧ SpriteWaits t ∧ StalledWhileSprite t

/-- R480, R481: after every step each predicted fire is the one the timer's fields give, and its action is
in the queue, so no fire is lost. -/
def Obligations.TimersKept : Prop :=
  ∀ s t : State, TimersScheduled s → step s = .next t → TimersScheduled t

/-- R502, R541, R511, R512: after every step the interrupt level is told or about to be, a sleeping CPU with
an interrupt pending is about to be woken, and the display is in range. -/
def Obligations.LevelAndDisplayKept : Prop :=
  ∀ s t : State, step s = .next t →
    (LevelTold s → LevelTold t) ∧ (SleepEnds s → SleepEnds t) ∧ (DisplayInRange s → DisplayInRange t)

/-- R215, R451, R107: in a state that keeps the protocol no step faults, but where R107 says that the
machine has no step. -/
def Obligations.OnlyStuckFaults : Prop :=
  ∀ (s : State) (f : Fault), CpuWaits s → SpriteWaits s →
    (step s = .fault f ↔
      f = .stuck ∧ s.queue = [] ∧ spriteActive s = false ∧ s.cpuRun ≠ .run)
end

