-- ==== Sys2Proof/Laws/Memory.lean ====
section
/-! SUPPORT. Laws/Memory.lean: the memory operations keep the canonical form, a read after a write gives
the byte written, and a write leaves every other byte alone. -/

namespace Sys2Proof.Machine

/-- A canonical memory from `lo` lists nothing below `lo`. -/
theorem memRead_below {size lo k : Nat} {m : List Host.Cell} (h : memWfFrom size lo m = true) (hk : k < lo) :
    memRead m k = unlisted := by
  induction m generalizing lo with
  | nil => rfl
  | cons c m ih =>
    obtain ⟨a, v⟩ := c
    simp only [memWfFrom, Bool.and_eq_true, decide_eq_true_eq] at h
    obtain ⟨⟨⟨h₁, _⟩, _⟩, h₄⟩ := h
    rw [memRead, if_neg (by omega)]
    exact ih h₄ (by omega)

/-- Canonical from `lo` is canonical from any lower bound. -/
theorem memWfFrom_mono {size lo lo' : Nat} {m : List Host.Cell} (h : memWfFrom size lo m = true)
    (hl : lo' ≤ lo) : memWfFrom size lo' m = true := by
  cases m with
  | nil => rfl
  | cons c m =>
    obtain ⟨a, v⟩ := c
    simp only [memWfFrom, Bool.and_eq_true, decide_eq_true_eq] at h ⊢
    exact ⟨⟨⟨by omega, h.1.1.2⟩, h.1.2⟩, h.2⟩

/-- A write at a key in range keeps the canonical form. -/
theorem memWrite_wfFrom {size lo k : Nat} {m : List Host.Cell} (v : Byte) (h : memWfFrom size lo m = true)
    (hl : lo ≤ k) (hk : k < size) : memWfFrom size lo (memWrite m k v) = true := by
  induction m generalizing lo with
  | nil =>
    simp only [memWrite]
    split
    · rfl
    · simp [memWfFrom, *]
  | cons c m ih =>
    obtain ⟨a, u⟩ := c
    have h' := h
    simp only [memWfFrom, Bool.and_eq_true, decide_eq_true_eq] at h'
    obtain ⟨⟨⟨h₁, h₂⟩, h₃⟩, h₄⟩ := h'
    simp only [memWrite]
    split
    · split
      · exact h
      · have : k + 1 ≤ a := by omega
        simp [memWfFrom, *]
    · split
      · split
        · exact memWfFrom_mono h₄ (by omega)
        · subst_vars; simp [memWfFrom, *]
      · have := ih h₄ (show a + 1 ≤ k by omega)
        simp [memWfFrom, h₁, h₂, h₃, this]

/-- A write keeps the canonical form. -/
theorem memWrite_wf {size k : Nat} {m : List Host.Cell} (v : Byte) (h : Memory.wf size m = true)
    (hk : k < size) : Memory.wf size (memWrite m k v) = true :=
  memWrite_wfFrom v h (Nat.zero_le k) hk

/-- Reading any byte after a write. -/
theorem memRead_memWrite_from {size lo k : Nat} {m : List Host.Cell} (v : Byte) (j : Nat)
    (h : memWfFrom size lo m = true) : memRead (memWrite m k v) j = if j = k then v else memRead m j := by
  induction m generalizing lo with
  | nil =>
    simp only [memWrite]
    split <;> simp only [memRead] <;> grind
  | cons c m ih =>
    obtain ⟨a, u⟩ := c
    have h' := h
    simp only [memWfFrom, Bool.and_eq_true, decide_eq_true_eq] at h'
    obtain ⟨⟨⟨h₁, h₂⟩, h₃⟩, h₄⟩ := h'
    have hb : ∀ x, x < a + 1 → memRead m x = unlisted := fun x hx => memRead_below h₄ hx
    have hi := ih h₄
    simp only [memWrite]
    split
    · split
      · simp only [memRead]; grind
      · simp only [memRead]; grind
    · split
      · split
        · simp only [memRead]; grind
        · simp only [memRead]; grind
      · simp only [memRead]; grind

/-- Reading any byte after a write, of a canonical memory. -/
theorem memRead_memWrite {size k : Nat} {m : List Host.Cell} (v : Byte) (j : Nat)
    (h : Memory.wf size m = true) : memRead (memWrite m k v) j = if j = k then v else memRead m j :=
  memRead_memWrite_from v j h

/-- Reading any byte of RAM after a write of RAM. -/
theorem ramRead_ramWrite (s : State) (a b : Addr) (v : Byte) (h : Memory.wf 65536 s.ram = true) :
    ramRead (ramWrite s a v) b = if b = a then v else ramRead s b := by
  simp only [ramRead, ramWrite, memRead_memWrite v b.toNat h]
  have : b.toNat = a.toNat ↔ b = a := ⟨fun e => BitVec.eq_of_toNat_eq e, fun e => e ▸ rfl⟩
  simp [this]

/-- A write of RAM keeps the canonical form. -/
theorem ramWrite_wf (s : State) (a : Addr) (v : Byte) (h : Memory.wf 65536 s.ram = true) :
    Memory.wf 65536 (ramWrite s a v).ram = true := memWrite_wf v h a.isLt

/-- Two canonical memories that read alike are equal. -/
theorem mem_ext_from {size lo : Nat} {m n : List Host.Cell} (hm : memWfFrom size lo m = true)
    (hn : memWfFrom size lo n = true) (h : ∀ k, memRead m k = memRead n k) : m = n := by
  induction m generalizing lo n with
  | nil =>
    cases n with
    | nil => rfl
    | cons c n =>
      obtain ⟨a, v⟩ := c
      have := h a
      simp only [memWfFrom, Bool.and_eq_true, bne_iff_ne] at hn
      simp only [memRead, if_true] at this
      exact absurd this.symm hn.1.2
  | cons c m ih =>
    obtain ⟨a, v⟩ := c
    have hm' := hm
    simp only [memWfFrom, Bool.and_eq_true, decide_eq_true_eq, bne_iff_ne] at hm'
    obtain ⟨⟨⟨h₁, h₂⟩, h₃⟩, h₄⟩ := hm'
    cases n with
    | nil =>
      have := h a
      simp only [memRead, if_true] at this
      exact absurd this h₃
    | cons d n =>
      obtain ⟨b, w⟩ := d
      have hn' := hn
      simp only [memWfFrom, Bool.and_eq_true, decide_eq_true_eq, bne_iff_ne] at hn'
      obtain ⟨⟨⟨g₁, g₂⟩, g₃⟩, g₄⟩ := hn'
      have ha := h a
      have hb := h b
      simp only [memRead, if_true] at ha hb
      have hab : a = b := by
        rcases Nat.lt_trichotomy a b with hlt | heq | hgt
        · rw [if_neg (by omega), memRead_below g₄ (by omega)] at ha
          exact absurd ha h₃
        · exact heq
        · rw [if_neg (by omega), memRead_below h₄ (by omega)] at hb
          exact absurd hb.symm g₃
      subst hab
      simp only [if_true] at ha
      subst ha
      have : m = n := ih h₄ g₄ (fun k => by
        have hk := h k
        simp only [memRead] at hk
        by_cases hka : a = k
        · subst hka
          rw [memRead_below h₄ (by omega), memRead_below g₄ (by omega)]
        · simpa [hka] using hk)
      rw [this]

end Sys2Proof.Machine
end

