-- ==== Sys2Proof/Laws/State.lean ====
section
/-! SUPPORT. Laws/State.lean: for each named update of the state, one lemma for each field. -/

namespace Sys2Proof.Machine

/-! ## `suspend` -/

@[simp] theorem suspend_now (r : Request) (k : Cont) (s : State) : (suspend r k s).now = s.now := rfl
@[simp] theorem suspend_queue (r : Request) (k : Cont) (s : State) : (suspend r k s).queue = s.queue := rfl
@[simp] theorem suspend_regs (r : Request) (k : Cont) (s : State) : (suspend r k s).regs = s.regs := rfl
@[simp] theorem suspend_irqMask (r : Request) (k : Cont) (s : State) :
    (suspend r k s).irqMask = s.irqMask := rfl
@[simp] theorem suspend_req (r : Request) (k : Cont) (s : State) : (suspend r k s).req = some r := rfl
@[simp] theorem suspend_cont (r : Request) (k : Cont) (s : State) : (suspend r k s).cont = k := rfl
@[simp] theorem suspend_loc (r : Request) (k : Cont) (s : State) : (suspend r k s).loc = s.loc := rfl
@[simp] theorem suspend_cpuRun (r : Request) (k : Cont) (s : State) : (suspend r k s).cpuRun = s.cpuRun := rfl
@[simp] theorem suspend_seqNext (r : Request) (k : Cont) (s : State) :
    (suspend r k s).seqNext = s.seqNext := rfl
@[simp] theorem suspend_ram (r : Request) (k : Cont) (s : State) : (suspend r k s).ram = s.ram := rfl
@[simp] theorem suspend_rom (r : Request) (k : Cont) (s : State) : (suspend r k s).rom = s.rom := rfl
@[simp] theorem suspend_mapctl (r : Request) (k : Cont) (s : State) : (suspend r k s).mapctl = s.mapctl := rfl
@[simp] theorem suspend_timers (r : Request) (k : Cont) (s : State) : (suspend r k s).timers = s.timers := rfl
@[simp] theorem suspend_chipB (r : Request) (k : Cont) (s : State) : (suspend r k s).chipB = s.chipB := rfl
@[simp] theorem suspend_intPending (r : Request) (k : Cont) (s : State) :
    (suspend r k s).intPending = s.intPending := rfl
@[simp] theorem suspend_display (r : Request) (k : Cont) (s : State) :
    (suspend r k s).display = s.display := rfl
@[simp] theorem suspend_palette (r : Request) (k : Cont) (s : State) :
    (suspend r k s).palette = s.palette := rfl
@[simp] theorem suspend_spr (r : Request) (k : Cont) (s : State) : (suspend r k s).spr = s.spr := rfl
@[simp] theorem suspend_chipA (r : Request) (k : Cont) (s : State) : (suspend r k s).chipA = s.chipA := rfl
@[simp] theorem suspend_draws (r : Request) (k : Cont) (s : State) : (suspend r k s).draws = s.draws := rfl
@[simp] theorem suspend_out (r : Request) (k : Cont) (s : State) : (suspend r k s).out = s.out := rfl

/-! ## `retire` -/

@[simp] theorem retire_now (s : State) : (retire s).now = s.now := rfl
@[simp] theorem retire_queue (s : State) : (retire s).queue = s.queue := rfl
@[simp] theorem retire_regs (s : State) : (retire s).regs = s.regs := rfl
@[simp] theorem retire_irqMask (s : State) : (retire s).irqMask = s.irqMask := rfl
@[simp] theorem retire_req (s : State) :
    (retire s).req = some { kind := .fetchOpcode, addr := s.regs.pc, value := 0 } := rfl
@[simp] theorem retire_cont (s : State) : (retire s).cont = .boundary := rfl
@[simp] theorem retire_loc (s : State) : (retire s).loc = Locals.clear := rfl
@[simp] theorem retire_cpuRun (s : State) : (retire s).cpuRun = s.cpuRun := rfl
@[simp] theorem retire_seqNext (s : State) : (retire s).seqNext = s.seqNext := rfl
@[simp] theorem retire_ram (s : State) : (retire s).ram = s.ram := rfl
@[simp] theorem retire_rom (s : State) : (retire s).rom = s.rom := rfl
@[simp] theorem retire_mapctl (s : State) : (retire s).mapctl = s.mapctl := rfl
@[simp] theorem retire_timers (s : State) : (retire s).timers = s.timers := rfl
@[simp] theorem retire_chipB (s : State) : (retire s).chipB = s.chipB := rfl
@[simp] theorem retire_intPending (s : State) : (retire s).intPending = s.intPending := rfl
@[simp] theorem retire_display (s : State) : (retire s).display = s.display := rfl
@[simp] theorem retire_palette (s : State) : (retire s).palette = s.palette := rfl
@[simp] theorem retire_spr (s : State) : (retire s).spr = s.spr := rfl
@[simp] theorem retire_chipA (s : State) : (retire s).chipA = s.chipA := rfl
@[simp] theorem retire_draws (s : State) : (retire s).draws = s.draws := rfl
@[simp] theorem retire_out (s : State) : (retire s).out = s.out := rfl

/-! ## `advancePc` -/

@[simp] theorem advancePc_now (s : State) : (advancePc s).now = s.now := rfl
@[simp] theorem advancePc_queue (s : State) : (advancePc s).queue = s.queue := rfl
@[simp] theorem advancePc_regs (s : State) : (advancePc s).regs = { s.regs with pc := s.regs.pc + 1 } := rfl
@[simp] theorem advancePc_irqMask (s : State) : (advancePc s).irqMask = s.irqMask := rfl
@[simp] theorem advancePc_req (s : State) : (advancePc s).req = s.req := rfl
@[simp] theorem advancePc_cont (s : State) : (advancePc s).cont = s.cont := rfl
@[simp] theorem advancePc_loc (s : State) : (advancePc s).loc = s.loc := rfl
@[simp] theorem advancePc_cpuRun (s : State) : (advancePc s).cpuRun = s.cpuRun := rfl
@[simp] theorem advancePc_seqNext (s : State) : (advancePc s).seqNext = s.seqNext := rfl
@[simp] theorem advancePc_ram (s : State) : (advancePc s).ram = s.ram := rfl
@[simp] theorem advancePc_rom (s : State) : (advancePc s).rom = s.rom := rfl
@[simp] theorem advancePc_mapctl (s : State) : (advancePc s).mapctl = s.mapctl := rfl
@[simp] theorem advancePc_timers (s : State) : (advancePc s).timers = s.timers := rfl
@[simp] theorem advancePc_chipB (s : State) : (advancePc s).chipB = s.chipB := rfl
@[simp] theorem advancePc_intPending (s : State) : (advancePc s).intPending = s.intPending := rfl
@[simp] theorem advancePc_display (s : State) : (advancePc s).display = s.display := rfl
@[simp] theorem advancePc_palette (s : State) : (advancePc s).palette = s.palette := rfl
@[simp] theorem advancePc_spr (s : State) : (advancePc s).spr = s.spr := rfl
@[simp] theorem advancePc_chipA (s : State) : (advancePc s).chipA = s.chipA := rfl
@[simp] theorem advancePc_draws (s : State) : (advancePc s).draws = s.draws := rfl
@[simp] theorem advancePc_out (s : State) : (advancePc s).out = s.out := rfl

/-! ## `ramWrite` -/

@[simp] theorem ramWrite_now (s : State) (a : Addr) (v : Byte) : (ramWrite s a v).now = s.now := rfl
@[simp] theorem ramWrite_queue (s : State) (a : Addr) (v : Byte) : (ramWrite s a v).queue = s.queue := rfl
@[simp] theorem ramWrite_regs (s : State) (a : Addr) (v : Byte) : (ramWrite s a v).regs = s.regs := rfl
@[simp] theorem ramWrite_irqMask (s : State) (a : Addr) (v : Byte) :
    (ramWrite s a v).irqMask = s.irqMask := rfl
@[simp] theorem ramWrite_req (s : State) (a : Addr) (v : Byte) : (ramWrite s a v).req = s.req := rfl
@[simp] theorem ramWrite_cont (s : State) (a : Addr) (v : Byte) : (ramWrite s a v).cont = s.cont := rfl
@[simp] theorem ramWrite_loc (s : State) (a : Addr) (v : Byte) : (ramWrite s a v).loc = s.loc := rfl
@[simp] theorem ramWrite_cpuRun (s : State) (a : Addr) (v : Byte) : (ramWrite s a v).cpuRun = s.cpuRun := rfl
@[simp] theorem ramWrite_seqNext (s : State) (a : Addr) (v : Byte) :
    (ramWrite s a v).seqNext = s.seqNext := rfl
@[simp] theorem ramWrite_ram (s : State) (a : Addr) (v : Byte) :
    (ramWrite s a v).ram = memWrite s.ram a.toNat v := rfl
@[simp] theorem ramWrite_rom (s : State) (a : Addr) (v : Byte) : (ramWrite s a v).rom = s.rom := rfl
@[simp] theorem ramWrite_mapctl (s : State) (a : Addr) (v : Byte) : (ramWrite s a v).mapctl = s.mapctl := rfl
@[simp] theorem ramWrite_timers (s : State) (a : Addr) (v : Byte) : (ramWrite s a v).timers = s.timers := rfl
@[simp] theorem ramWrite_chipB (s : State) (a : Addr) (v : Byte) : (ramWrite s a v).chipB = s.chipB := rfl
@[simp] theorem ramWrite_intPending (s : State) (a : Addr) (v : Byte) :
    (ramWrite s a v).intPending = s.intPending := rfl
@[simp] theorem ramWrite_display (s : State) (a : Addr) (v : Byte) :
    (ramWrite s a v).display = s.display := rfl
@[simp] theorem ramWrite_palette (s : State) (a : Addr) (v : Byte) :
    (ramWrite s a v).palette = s.palette := rfl
@[simp] theorem ramWrite_spr (s : State) (a : Addr) (v : Byte) : (ramWrite s a v).spr = s.spr := rfl
@[simp] theorem ramWrite_chipA (s : State) (a : Addr) (v : Byte) : (ramWrite s a v).chipA = s.chipA := rfl
@[simp] theorem ramWrite_draws (s : State) (a : Addr) (v : Byte) : (ramWrite s a v).draws = s.draws := rfl
@[simp] theorem ramWrite_out (s : State) (a : Addr) (v : Byte) : (ramWrite s a v).out = s.out := rfl

/-! ## `enqueue` -/

@[simp] theorem enqueue_now (e : Action) (s : State) : (enqueue e s).now = s.now := rfl
@[simp] theorem enqueue_queue (e : Action) (s : State) : (enqueue e s).queue = insertAction e s.queue := rfl
@[simp] theorem enqueue_regs (e : Action) (s : State) : (enqueue e s).regs = s.regs := rfl
@[simp] theorem enqueue_irqMask (e : Action) (s : State) : (enqueue e s).irqMask = s.irqMask := rfl
@[simp] theorem enqueue_req (e : Action) (s : State) : (enqueue e s).req = s.req := rfl
@[simp] theorem enqueue_cont (e : Action) (s : State) : (enqueue e s).cont = s.cont := rfl
@[simp] theorem enqueue_loc (e : Action) (s : State) : (enqueue e s).loc = s.loc := rfl
@[simp] theorem enqueue_cpuRun (e : Action) (s : State) : (enqueue e s).cpuRun = s.cpuRun := rfl
@[simp] theorem enqueue_seqNext (e : Action) (s : State) : (enqueue e s).seqNext = s.seqNext := rfl
@[simp] theorem enqueue_ram (e : Action) (s : State) : (enqueue e s).ram = s.ram := rfl
@[simp] theorem enqueue_rom (e : Action) (s : State) : (enqueue e s).rom = s.rom := rfl
@[simp] theorem enqueue_mapctl (e : Action) (s : State) : (enqueue e s).mapctl = s.mapctl := rfl
@[simp] theorem enqueue_timers (e : Action) (s : State) : (enqueue e s).timers = s.timers := rfl
@[simp] theorem enqueue_chipB (e : Action) (s : State) : (enqueue e s).chipB = s.chipB := rfl
@[simp] theorem enqueue_intPending (e : Action) (s : State) : (enqueue e s).intPending = s.intPending := rfl
@[simp] theorem enqueue_display (e : Action) (s : State) : (enqueue e s).display = s.display := rfl
@[simp] theorem enqueue_palette (e : Action) (s : State) : (enqueue e s).palette = s.palette := rfl
@[simp] theorem enqueue_spr (e : Action) (s : State) : (enqueue e s).spr = s.spr := rfl
@[simp] theorem enqueue_chipA (e : Action) (s : State) : (enqueue e s).chipA = s.chipA := rfl
@[simp] theorem enqueue_draws (e : Action) (s : State) : (enqueue e s).draws = s.draws := rfl
@[simp] theorem enqueue_out (e : Action) (s : State) : (enqueue e s).out = s.out := rfl

/-! ## `pushAfter` -/

@[simp] theorem pushAfter_now (t d : Nat) (k : Kind) (s : State) : (pushAfter t d k s).now = s.now := rfl
@[simp] theorem pushAfter_queue (t d : Nat) (k : Kind) (s : State) :
    (pushAfter t d k s).queue = insertAction { tick := t + d, kind := k } s.queue := rfl
@[simp] theorem pushAfter_regs (t d : Nat) (k : Kind) (s : State) : (pushAfter t d k s).regs = s.regs := rfl
@[simp] theorem pushAfter_irqMask (t d : Nat) (k : Kind) (s : State) :
    (pushAfter t d k s).irqMask = s.irqMask := rfl
@[simp] theorem pushAfter_req (t d : Nat) (k : Kind) (s : State) : (pushAfter t d k s).req = s.req := rfl
@[simp] theorem pushAfter_cont (t d : Nat) (k : Kind) (s : State) : (pushAfter t d k s).cont = s.cont := rfl
@[simp] theorem pushAfter_loc (t d : Nat) (k : Kind) (s : State) : (pushAfter t d k s).loc = s.loc := rfl
@[simp] theorem pushAfter_cpuRun (t d : Nat) (k : Kind) (s : State) :
    (pushAfter t d k s).cpuRun = s.cpuRun := rfl
@[simp] theorem pushAfter_seqNext (t d : Nat) (k : Kind) (s : State) :
    (pushAfter t d k s).seqNext = s.seqNext := rfl
@[simp] theorem pushAfter_ram (t d : Nat) (k : Kind) (s : State) : (pushAfter t d k s).ram = s.ram := rfl
@[simp] theorem pushAfter_rom (t d : Nat) (k : Kind) (s : State) : (pushAfter t d k s).rom = s.rom := rfl
@[simp] theorem pushAfter_mapctl (t d : Nat) (k : Kind) (s : State) :
    (pushAfter t d k s).mapctl = s.mapctl := rfl
@[simp] theorem pushAfter_timers (t d : Nat) (k : Kind) (s : State) :
    (pushAfter t d k s).timers = s.timers := rfl
@[simp] theorem pushAfter_chipB (t d : Nat) (k : Kind) (s : State) :
    (pushAfter t d k s).chipB = s.chipB := rfl
@[simp] theorem pushAfter_intPending (t d : Nat) (k : Kind) (s : State) :
    (pushAfter t d k s).intPending = s.intPending := rfl
@[simp] theorem pushAfter_display (t d : Nat) (k : Kind) (s : State) :
    (pushAfter t d k s).display = s.display := rfl
@[simp] theorem pushAfter_palette (t d : Nat) (k : Kind) (s : State) :
    (pushAfter t d k s).palette = s.palette := rfl
@[simp] theorem pushAfter_spr (t d : Nat) (k : Kind) (s : State) : (pushAfter t d k s).spr = s.spr := rfl
@[simp] theorem pushAfter_chipA (t d : Nat) (k : Kind) (s : State) :
    (pushAfter t d k s).chipA = s.chipA := rfl
@[simp] theorem pushAfter_draws (t d : Nat) (k : Kind) (s : State) :
    (pushAfter t d k s).draws = s.draws := rfl
@[simp] theorem pushAfter_out (t d : Nat) (k : Kind) (s : State) : (pushAfter t d k s).out = s.out := rfl

/-! ## `setTimer` -/

@[simp] theorem setTimer_now (n : Fin 12) (T : Timer) (s : State) : (setTimer n T s).now = s.now := rfl
@[simp] theorem setTimer_queue (n : Fin 12) (T : Timer) (s : State) : (setTimer n T s).queue = s.queue := rfl
@[simp] theorem setTimer_regs (n : Fin 12) (T : Timer) (s : State) : (setTimer n T s).regs = s.regs := rfl
@[simp] theorem setTimer_irqMask (n : Fin 12) (T : Timer) (s : State) :
    (setTimer n T s).irqMask = s.irqMask := rfl
@[simp] theorem setTimer_req (n : Fin 12) (T : Timer) (s : State) : (setTimer n T s).req = s.req := rfl
@[simp] theorem setTimer_cont (n : Fin 12) (T : Timer) (s : State) : (setTimer n T s).cont = s.cont := rfl
@[simp] theorem setTimer_loc (n : Fin 12) (T : Timer) (s : State) : (setTimer n T s).loc = s.loc := rfl
@[simp] theorem setTimer_cpuRun (n : Fin 12) (T : Timer) (s : State) :
    (setTimer n T s).cpuRun = s.cpuRun := rfl
@[simp] theorem setTimer_seqNext (n : Fin 12) (T : Timer) (s : State) :
    (setTimer n T s).seqNext = s.seqNext := rfl
@[simp] theorem setTimer_ram (n : Fin 12) (T : Timer) (s : State) : (setTimer n T s).ram = s.ram := rfl
@[simp] theorem setTimer_rom (n : Fin 12) (T : Timer) (s : State) : (setTimer n T s).rom = s.rom := rfl
@[simp] theorem setTimer_mapctl (n : Fin 12) (T : Timer) (s : State) :
    (setTimer n T s).mapctl = s.mapctl := rfl
@[simp] theorem setTimer_timers (n : Fin 12) (T : Timer) (s : State) :
    (setTimer n T s).timers = s.timers.set n T := rfl
@[simp] theorem setTimer_chipB (n : Fin 12) (T : Timer) (s : State) : (setTimer n T s).chipB = s.chipB := rfl
@[simp] theorem setTimer_intPending (n : Fin 12) (T : Timer) (s : State) :
    (setTimer n T s).intPending = s.intPending := rfl
@[simp] theorem setTimer_display (n : Fin 12) (T : Timer) (s : State) :
    (setTimer n T s).display = s.display := rfl
@[simp] theorem setTimer_palette (n : Fin 12) (T : Timer) (s : State) :
    (setTimer n T s).palette = s.palette := rfl
@[simp] theorem setTimer_spr (n : Fin 12) (T : Timer) (s : State) : (setTimer n T s).spr = s.spr := rfl
@[simp] theorem setTimer_chipA (n : Fin 12) (T : Timer) (s : State) : (setTimer n T s).chipA = s.chipA := rfl
@[simp] theorem setTimer_draws (n : Fin 12) (T : Timer) (s : State) : (setTimer n T s).draws = s.draws := rfl
@[simp] theorem setTimer_out (n : Fin 12) (T : Timer) (s : State) : (setTimer n T s).out = s.out := rfl

/-! ## `storeB` -/

@[simp] theorem storeB_now (o v : Byte) (s : State) : (storeB o v s).now = s.now := rfl
@[simp] theorem storeB_queue (o v : Byte) (s : State) : (storeB o v s).queue = s.queue := rfl
@[simp] theorem storeB_regs (o v : Byte) (s : State) : (storeB o v s).regs = s.regs := rfl
@[simp] theorem storeB_irqMask (o v : Byte) (s : State) : (storeB o v s).irqMask = s.irqMask := rfl
@[simp] theorem storeB_req (o v : Byte) (s : State) : (storeB o v s).req = s.req := rfl
@[simp] theorem storeB_cont (o v : Byte) (s : State) : (storeB o v s).cont = s.cont := rfl
@[simp] theorem storeB_loc (o v : Byte) (s : State) : (storeB o v s).loc = s.loc := rfl
@[simp] theorem storeB_cpuRun (o v : Byte) (s : State) : (storeB o v s).cpuRun = s.cpuRun := rfl
@[simp] theorem storeB_seqNext (o v : Byte) (s : State) : (storeB o v s).seqNext = s.seqNext := rfl
@[simp] theorem storeB_ram (o v : Byte) (s : State) : (storeB o v s).ram = s.ram := rfl
@[simp] theorem storeB_rom (o v : Byte) (s : State) : (storeB o v s).rom = s.rom := rfl
@[simp] theorem storeB_mapctl (o v : Byte) (s : State) : (storeB o v s).mapctl = s.mapctl := rfl
@[simp] theorem storeB_timers (o v : Byte) (s : State) : (storeB o v s).timers = s.timers := rfl
@[simp] theorem storeB_chipB (o v : Byte) (s : State) :
    (storeB o v s).chipB = memWrite s.chipB o.toNat v := rfl
@[simp] theorem storeB_intPending (o v : Byte) (s : State) : (storeB o v s).intPending = s.intPending := rfl
@[simp] theorem storeB_display (o v : Byte) (s : State) : (storeB o v s).display = s.display := rfl
@[simp] theorem storeB_palette (o v : Byte) (s : State) : (storeB o v s).palette = s.palette := rfl
@[simp] theorem storeB_spr (o v : Byte) (s : State) : (storeB o v s).spr = s.spr := rfl
@[simp] theorem storeB_chipA (o v : Byte) (s : State) : (storeB o v s).chipA = s.chipA := rfl
@[simp] theorem storeB_draws (o v : Byte) (s : State) : (storeB o v s).draws = s.draws := rfl
@[simp] theorem storeB_out (o v : Byte) (s : State) : (storeB o v s).out = s.out := rfl

/-! ## `nextDraw` -/

@[simp] theorem nextDraw_now (s : State) : (nextDraw s).now = s.now := rfl
@[simp] theorem nextDraw_queue (s : State) : (nextDraw s).queue = s.queue := rfl
@[simp] theorem nextDraw_regs (s : State) : (nextDraw s).regs = s.regs := rfl
@[simp] theorem nextDraw_irqMask (s : State) : (nextDraw s).irqMask = s.irqMask := rfl
@[simp] theorem nextDraw_req (s : State) : (nextDraw s).req = s.req := rfl
@[simp] theorem nextDraw_cont (s : State) : (nextDraw s).cont = s.cont := rfl
@[simp] theorem nextDraw_loc (s : State) : (nextDraw s).loc = s.loc := rfl
@[simp] theorem nextDraw_cpuRun (s : State) : (nextDraw s).cpuRun = s.cpuRun := rfl
@[simp] theorem nextDraw_seqNext (s : State) : (nextDraw s).seqNext = s.seqNext := rfl
@[simp] theorem nextDraw_ram (s : State) : (nextDraw s).ram = s.ram := rfl
@[simp] theorem nextDraw_rom (s : State) : (nextDraw s).rom = s.rom := rfl
@[simp] theorem nextDraw_mapctl (s : State) : (nextDraw s).mapctl = s.mapctl := rfl
@[simp] theorem nextDraw_timers (s : State) : (nextDraw s).timers = s.timers := rfl
@[simp] theorem nextDraw_chipB (s : State) : (nextDraw s).chipB = s.chipB := rfl
@[simp] theorem nextDraw_intPending (s : State) : (nextDraw s).intPending = s.intPending := rfl
@[simp] theorem nextDraw_display (s : State) : (nextDraw s).display = s.display := rfl
@[simp] theorem nextDraw_palette (s : State) : (nextDraw s).palette = s.palette := rfl
@[simp] theorem nextDraw_spr (s : State) : (nextDraw s).spr = s.spr := rfl
@[simp] theorem nextDraw_chipA (s : State) : (nextDraw s).chipA = s.chipA := rfl
@[simp] theorem nextDraw_draws (s : State) : (nextDraw s).draws = s.draws + 1 := rfl
@[simp] theorem nextDraw_out (s : State) : (nextDraw s).out = s.out := rfl

/-! ## `sprEmit` -/

@[simp] theorem sprEmit_now (r : SprReq) (k : SprCont) (s : State) : (sprEmit r k s).now = s.now := rfl
@[simp] theorem sprEmit_queue (r : SprReq) (k : SprCont) (s : State) : (sprEmit r k s).queue = s.queue := rfl
@[simp] theorem sprEmit_regs (r : SprReq) (k : SprCont) (s : State) : (sprEmit r k s).regs = s.regs := rfl
@[simp] theorem sprEmit_irqMask (r : SprReq) (k : SprCont) (s : State) :
    (sprEmit r k s).irqMask = s.irqMask := rfl
@[simp] theorem sprEmit_req (r : SprReq) (k : SprCont) (s : State) : (sprEmit r k s).req = s.req := rfl
@[simp] theorem sprEmit_cont (r : SprReq) (k : SprCont) (s : State) : (sprEmit r k s).cont = s.cont := rfl
@[simp] theorem sprEmit_loc (r : SprReq) (k : SprCont) (s : State) : (sprEmit r k s).loc = s.loc := rfl
@[simp] theorem sprEmit_cpuRun (r : SprReq) (k : SprCont) (s : State) :
    (sprEmit r k s).cpuRun = s.cpuRun := rfl
@[simp] theorem sprEmit_seqNext (r : SprReq) (k : SprCont) (s : State) :
    (sprEmit r k s).seqNext = s.seqNext := rfl
@[simp] theorem sprEmit_ram (r : SprReq) (k : SprCont) (s : State) : (sprEmit r k s).ram = s.ram := rfl
@[simp] theorem sprEmit_rom (r : SprReq) (k : SprCont) (s : State) : (sprEmit r k s).rom = s.rom := rfl
@[simp] theorem sprEmit_mapctl (r : SprReq) (k : SprCont) (s : State) :
    (sprEmit r k s).mapctl = s.mapctl := rfl
@[simp] theorem sprEmit_timers (r : SprReq) (k : SprCont) (s : State) :
    (sprEmit r k s).timers = s.timers := rfl
@[simp] theorem sprEmit_chipB (r : SprReq) (k : SprCont) (s : State) : (sprEmit r k s).chipB = s.chipB := rfl
@[simp] theorem sprEmit_intPending (r : SprReq) (k : SprCont) (s : State) :
    (sprEmit r k s).intPending = s.intPending := rfl
@[simp] theorem sprEmit_display (r : SprReq) (k : SprCont) (s : State) :
    (sprEmit r k s).display = s.display := rfl
@[simp] theorem sprEmit_palette (r : SprReq) (k : SprCont) (s : State) :
    (sprEmit r k s).palette = s.palette := rfl
@[simp] theorem sprEmit_spr (r : SprReq) (k : SprCont) (s : State) :
    (sprEmit r k s).spr = { s.spr with req := some r, cont := k } := rfl
@[simp] theorem sprEmit_chipA (r : SprReq) (k : SprCont) (s : State) : (sprEmit r k s).chipA = s.chipA := rfl
@[simp] theorem sprEmit_draws (r : SprReq) (k : SprCont) (s : State) : (sprEmit r k s).draws = s.draws := rfl
@[simp] theorem sprEmit_out (r : SprReq) (k : SprCont) (s : State) : (sprEmit r k s).out = s.out := rfl

/-! ## `addColl` -/

@[simp] theorem addColl_now (src : DepoSource) (p : Pixel) (s : State) : (addColl src p s).now = s.now := rfl
@[simp] theorem addColl_queue (src : DepoSource) (p : Pixel) (s : State) :
    (addColl src p s).queue = s.queue := rfl
@[simp] theorem addColl_regs (src : DepoSource) (p : Pixel) (s : State) :
    (addColl src p s).regs = s.regs := rfl
@[simp] theorem addColl_irqMask (src : DepoSource) (p : Pixel) (s : State) :
    (addColl src p s).irqMask = s.irqMask := rfl
@[simp] theorem addColl_req (src : DepoSource) (p : Pixel) (s : State) : (addColl src p s).req = s.req := rfl
@[simp] theorem addColl_cont (src : DepoSource) (p : Pixel) (s : State) :
    (addColl src p s).cont = s.cont := rfl
@[simp] theorem addColl_loc (src : DepoSource) (p : Pixel) (s : State) : (addColl src p s).loc = s.loc := rfl
@[simp] theorem addColl_cpuRun (src : DepoSource) (p : Pixel) (s : State) :
    (addColl src p s).cpuRun = s.cpuRun := rfl
@[simp] theorem addColl_seqNext (src : DepoSource) (p : Pixel) (s : State) :
    (addColl src p s).seqNext = s.seqNext := rfl
@[simp] theorem addColl_ram (src : DepoSource) (p : Pixel) (s : State) : (addColl src p s).ram = s.ram := rfl
@[simp] theorem addColl_rom (src : DepoSource) (p : Pixel) (s : State) : (addColl src p s).rom = s.rom := rfl
@[simp] theorem addColl_mapctl (src : DepoSource) (p : Pixel) (s : State) :
    (addColl src p s).mapctl = s.mapctl := rfl
@[simp] theorem addColl_timers (src : DepoSource) (p : Pixel) (s : State) :
    (addColl src p s).timers = s.timers := rfl
@[simp] theorem addColl_chipB (src : DepoSource) (p : Pixel) (s : State) :
    (addColl src p s).chipB = s.chipB := rfl
@[simp] theorem addColl_intPending (src : DepoSource) (p : Pixel) (s : State) :
    (addColl src p s).intPending = s.intPending := rfl
@[simp] theorem addColl_display (src : DepoSource) (p : Pixel) (s : State) :
    (addColl src p s).display = s.display := rfl
@[simp] theorem addColl_palette (src : DepoSource) (p : Pixel) (s : State) :
    (addColl src p s).palette = s.palette := rfl
@[simp] theorem addColl_chipA (src : DepoSource) (p : Pixel) (s : State) :
    (addColl src p s).chipA = s.chipA := rfl
@[simp] theorem addColl_draws (src : DepoSource) (p : Pixel) (s : State) :
    (addColl src p s).draws = s.draws := rfl
@[simp] theorem addColl_out (src : DepoSource) (p : Pixel) (s : State) : (addColl src p s).out = s.out := rfl

/-! ## `addVideo` -/

@[simp] theorem addVideo_now (p : Pixel) (s : State) : (addVideo p s).now = s.now := rfl
@[simp] theorem addVideo_queue (p : Pixel) (s : State) : (addVideo p s).queue = s.queue := rfl
@[simp] theorem addVideo_regs (p : Pixel) (s : State) : (addVideo p s).regs = s.regs := rfl
@[simp] theorem addVideo_irqMask (p : Pixel) (s : State) : (addVideo p s).irqMask = s.irqMask := rfl
@[simp] theorem addVideo_req (p : Pixel) (s : State) : (addVideo p s).req = s.req := rfl
@[simp] theorem addVideo_cont (p : Pixel) (s : State) : (addVideo p s).cont = s.cont := rfl
@[simp] theorem addVideo_loc (p : Pixel) (s : State) : (addVideo p s).loc = s.loc := rfl
@[simp] theorem addVideo_cpuRun (p : Pixel) (s : State) : (addVideo p s).cpuRun = s.cpuRun := rfl
@[simp] theorem addVideo_seqNext (p : Pixel) (s : State) : (addVideo p s).seqNext = s.seqNext := rfl
@[simp] theorem addVideo_ram (p : Pixel) (s : State) : (addVideo p s).ram = s.ram := rfl
@[simp] theorem addVideo_rom (p : Pixel) (s : State) : (addVideo p s).rom = s.rom := rfl
@[simp] theorem addVideo_mapctl (p : Pixel) (s : State) : (addVideo p s).mapctl = s.mapctl := rfl
@[simp] theorem addVideo_timers (p : Pixel) (s : State) : (addVideo p s).timers = s.timers := rfl
@[simp] theorem addVideo_chipB (p : Pixel) (s : State) : (addVideo p s).chipB = s.chipB := rfl
@[simp] theorem addVideo_intPending (p : Pixel) (s : State) : (addVideo p s).intPending = s.intPending := rfl
@[simp] theorem addVideo_display (p : Pixel) (s : State) : (addVideo p s).display = s.display := rfl
@[simp] theorem addVideo_palette (p : Pixel) (s : State) : (addVideo p s).palette = s.palette := rfl
@[simp] theorem addVideo_chipA (p : Pixel) (s : State) : (addVideo p s).chipA = s.chipA := rfl
@[simp] theorem addVideo_draws (p : Pixel) (s : State) : (addVideo p s).draws = s.draws := rfl
@[simp] theorem addVideo_out (p : Pixel) (s : State) : (addVideo p s).out = s.out := rfl

/-! ## `paletteWrite` -/

@[simp] theorem paletteWrite_now (t : Nat) (o v : Byte) (s : State) :
    (paletteWrite t o v s).now = s.now := rfl
@[simp] theorem paletteWrite_queue (t : Nat) (o v : Byte) (s : State) :
    (paletteWrite t o v s).queue = s.queue := rfl
@[simp] theorem paletteWrite_regs (t : Nat) (o v : Byte) (s : State) :
    (paletteWrite t o v s).regs = s.regs := rfl
@[simp] theorem paletteWrite_irqMask (t : Nat) (o v : Byte) (s : State) :
    (paletteWrite t o v s).irqMask = s.irqMask := rfl
@[simp] theorem paletteWrite_req (t : Nat) (o v : Byte) (s : State) :
    (paletteWrite t o v s).req = s.req := rfl
@[simp] theorem paletteWrite_cont (t : Nat) (o v : Byte) (s : State) :
    (paletteWrite t o v s).cont = s.cont := rfl
@[simp] theorem paletteWrite_loc (t : Nat) (o v : Byte) (s : State) :
    (paletteWrite t o v s).loc = s.loc := rfl
@[simp] theorem paletteWrite_cpuRun (t : Nat) (o v : Byte) (s : State) :
    (paletteWrite t o v s).cpuRun = s.cpuRun := rfl
@[simp] theorem paletteWrite_seqNext (t : Nat) (o v : Byte) (s : State) :
    (paletteWrite t o v s).seqNext = s.seqNext := rfl
@[simp] theorem paletteWrite_ram (t : Nat) (o v : Byte) (s : State) :
    (paletteWrite t o v s).ram = s.ram := rfl
@[simp] theorem paletteWrite_rom (t : Nat) (o v : Byte) (s : State) :
    (paletteWrite t o v s).rom = s.rom := rfl
@[simp] theorem paletteWrite_mapctl (t : Nat) (o v : Byte) (s : State) :
    (paletteWrite t o v s).mapctl = s.mapctl := rfl
@[simp] theorem paletteWrite_timers (t : Nat) (o v : Byte) (s : State) :
    (paletteWrite t o v s).timers = s.timers := rfl
@[simp] theorem paletteWrite_chipB (t : Nat) (o v : Byte) (s : State) :
    (paletteWrite t o v s).chipB = s.chipB := rfl
@[simp] theorem paletteWrite_intPending (t : Nat) (o v : Byte) (s : State) :
    (paletteWrite t o v s).intPending = s.intPending := rfl
@[simp] theorem paletteWrite_palette (t : Nat) (o v : Byte) (s : State) :
    (paletteWrite t o v s).palette = { tick := t, reg := o, value := v } :: s.palette := rfl
@[simp] theorem paletteWrite_spr (t : Nat) (o v : Byte) (s : State) :
    (paletteWrite t o v s).spr = s.spr := rfl
@[simp] theorem paletteWrite_chipA (t : Nat) (o v : Byte) (s : State) :
    (paletteWrite t o v s).chipA = s.chipA := rfl
@[simp] theorem paletteWrite_draws (t : Nat) (o v : Byte) (s : State) :
    (paletteWrite t o v s).draws = s.draws := rfl
@[simp] theorem paletteWrite_out (t : Nat) (o v : Byte) (s : State) :
    (paletteWrite t o v s).out = s.out := rfl

/-! ## `irqUpdate` -/

@[simp] theorem irqUpdate_now (s : State) : (irqUpdate s).now = s.now := rfl
@[simp] theorem irqUpdate_queue (s : State) : (irqUpdate s).queue = s.queue := rfl
@[simp] theorem irqUpdate_regs (s : State) : (irqUpdate s).regs = s.regs := rfl
@[simp] theorem irqUpdate_irqMask (s : State) :
    (irqUpdate s).irqMask = { s.irqMask with irq := irqLine s } := rfl
@[simp] theorem irqUpdate_req (s : State) : (irqUpdate s).req = s.req := rfl
@[simp] theorem irqUpdate_cont (s : State) : (irqUpdate s).cont = s.cont := rfl
@[simp] theorem irqUpdate_loc (s : State) : (irqUpdate s).loc = s.loc := rfl
@[simp] theorem irqUpdate_seqNext (s : State) : (irqUpdate s).seqNext = s.seqNext := rfl
@[simp] theorem irqUpdate_ram (s : State) : (irqUpdate s).ram = s.ram := rfl
@[simp] theorem irqUpdate_rom (s : State) : (irqUpdate s).rom = s.rom := rfl
@[simp] theorem irqUpdate_mapctl (s : State) : (irqUpdate s).mapctl = s.mapctl := rfl
@[simp] theorem irqUpdate_timers (s : State) : (irqUpdate s).timers = s.timers := rfl
@[simp] theorem irqUpdate_chipB (s : State) : (irqUpdate s).chipB = s.chipB := rfl
@[simp] theorem irqUpdate_intPending (s : State) : (irqUpdate s).intPending = s.intPending := rfl
@[simp] theorem irqUpdate_display (s : State) : (irqUpdate s).display = s.display := rfl
@[simp] theorem irqUpdate_palette (s : State) : (irqUpdate s).palette = s.palette := rfl
@[simp] theorem irqUpdate_spr (s : State) : (irqUpdate s).spr = s.spr := rfl
@[simp] theorem irqUpdate_chipA (s : State) : (irqUpdate s).chipA = s.chipA := rfl
@[simp] theorem irqUpdate_draws (s : State) : (irqUpdate s).draws = s.draws := rfl
@[simp] theorem irqUpdate_out (s : State) : (irqUpdate s).out = s.out := rfl

/-! ## `finishLine` -/

@[simp] theorem finishLine_now (t : Nat) (r : Byte) (s : State) : (finishLine t r s).now = s.now := rfl
@[simp] theorem finishLine_queue (t : Nat) (r : Byte) (s : State) : (finishLine t r s).queue = s.queue := rfl
@[simp] theorem finishLine_regs (t : Nat) (r : Byte) (s : State) : (finishLine t r s).regs = s.regs := rfl
@[simp] theorem finishLine_irqMask (t : Nat) (r : Byte) (s : State) :
    (finishLine t r s).irqMask = s.irqMask := rfl
@[simp] theorem finishLine_req (t : Nat) (r : Byte) (s : State) : (finishLine t r s).req = s.req := rfl
@[simp] theorem finishLine_cont (t : Nat) (r : Byte) (s : State) : (finishLine t r s).cont = s.cont := rfl
@[simp] theorem finishLine_loc (t : Nat) (r : Byte) (s : State) : (finishLine t r s).loc = s.loc := rfl
@[simp] theorem finishLine_cpuRun (t : Nat) (r : Byte) (s : State) :
    (finishLine t r s).cpuRun = s.cpuRun := rfl
@[simp] theorem finishLine_seqNext (t : Nat) (r : Byte) (s : State) :
    (finishLine t r s).seqNext = s.seqNext := rfl
@[simp] theorem finishLine_ram (t : Nat) (r : Byte) (s : State) : (finishLine t r s).ram = s.ram := rfl
@[simp] theorem finishLine_rom (t : Nat) (r : Byte) (s : State) : (finishLine t r s).rom = s.rom := rfl
@[simp] theorem finishLine_mapctl (t : Nat) (r : Byte) (s : State) :
    (finishLine t r s).mapctl = s.mapctl := rfl
@[simp] theorem finishLine_timers (t : Nat) (r : Byte) (s : State) :
    (finishLine t r s).timers = s.timers := rfl
@[simp] theorem finishLine_chipB (t : Nat) (r : Byte) (s : State) : (finishLine t r s).chipB = s.chipB := rfl
@[simp] theorem finishLine_intPending (t : Nat) (r : Byte) (s : State) :
    (finishLine t r s).intPending = s.intPending := rfl
@[simp] theorem finishLine_palette (t : Nat) (r : Byte) (s : State) :
    (finishLine t r s).palette = s.palette := rfl
@[simp] theorem finishLine_spr (t : Nat) (r : Byte) (s : State) : (finishLine t r s).spr = s.spr := rfl
@[simp] theorem finishLine_chipA (t : Nat) (r : Byte) (s : State) : (finishLine t r s).chipA = s.chipA := rfl
@[simp] theorem finishLine_draws (t : Nat) (r : Byte) (s : State) :
    (finishLine t r s).draws = s.draws + 1 := rfl
@[simp] theorem finishLine_out (t : Nat) (r : Byte) (s : State) : (finishLine t r s).out = s.out := rfl

/-! ## `breakFrame` -/

@[simp] theorem breakFrame_now (b : Bool) (s : State) : (breakFrame b s).now = s.now := rfl
@[simp] theorem breakFrame_queue (b : Bool) (s : State) : (breakFrame b s).queue = s.queue := rfl
@[simp] theorem breakFrame_regs (b : Bool) (s : State) : (breakFrame b s).regs = s.regs := rfl
@[simp] theorem breakFrame_irqMask (b : Bool) (s : State) : (breakFrame b s).irqMask = s.irqMask := rfl
@[simp] theorem breakFrame_req (b : Bool) (s : State) : (breakFrame b s).req = s.req := rfl
@[simp] theorem breakFrame_cont (b : Bool) (s : State) : (breakFrame b s).cont = s.cont := rfl
@[simp] theorem breakFrame_loc (b : Bool) (s : State) : (breakFrame b s).loc = s.loc := rfl
@[simp] theorem breakFrame_cpuRun (b : Bool) (s : State) : (breakFrame b s).cpuRun = s.cpuRun := rfl
@[simp] theorem breakFrame_seqNext (b : Bool) (s : State) : (breakFrame b s).seqNext = s.seqNext := rfl
@[simp] theorem breakFrame_ram (b : Bool) (s : State) : (breakFrame b s).ram = s.ram := rfl
@[simp] theorem breakFrame_rom (b : Bool) (s : State) : (breakFrame b s).rom = s.rom := rfl
@[simp] theorem breakFrame_mapctl (b : Bool) (s : State) : (breakFrame b s).mapctl = s.mapctl := rfl
@[simp] theorem breakFrame_timers (b : Bool) (s : State) : (breakFrame b s).timers = s.timers := rfl
@[simp] theorem breakFrame_chipB (b : Bool) (s : State) : (breakFrame b s).chipB = s.chipB := rfl
@[simp] theorem breakFrame_intPending (b : Bool) (s : State) :
    (breakFrame b s).intPending = s.intPending := rfl
@[simp] theorem breakFrame_palette (b : Bool) (s : State) : (breakFrame b s).palette = s.palette := rfl
@[simp] theorem breakFrame_spr (b : Bool) (s : State) : (breakFrame b s).spr = s.spr := rfl
@[simp] theorem breakFrame_chipA (b : Bool) (s : State) : (breakFrame b s).chipA = s.chipA := rfl
@[simp] theorem breakFrame_out (b : Bool) (s : State) : (breakFrame b s).out = s.out := rfl
@[simp] theorem breakFrame_display_dispctl (b : Bool) (s : State) :
    (breakFrame b s).display.dispctl = s.display.dispctl := rfl
@[simp] theorem breakFrame_display_dispadr (b : Bool) (s : State) :
    (breakFrame b s).display.dispadr = s.display.dispadr := rfl
@[simp] theorem breakFrame_display_dmaAddr (b : Bool) (s : State) :
    (breakFrame b s).display.dmaAddr = s.display.dmaAddr := rfl
@[simp] theorem breakFrame_display_row (b : Bool) (s : State) :
    (breakFrame b s).display.row = s.display.row := rfl
@[simp] theorem breakFrame_display_burst (b : Bool) (s : State) :
    (breakFrame b s).display.burst = s.display.burst := rfl
@[simp] theorem breakFrame_display_lineBytes (b : Bool) (s : State) :
    (breakFrame b s).display.lineBytes = s.display.lineBytes := rfl
@[simp] theorem breakFrame_display_lineTick (b : Bool) (s : State) :
    (breakFrame b s).display.lineTick = s.display.lineTick := rfl
@[simp] theorem breakFrame_display_burstTick (b : Bool) (s : State) :
    (breakFrame b s).display.burstTick = s.display.burstTick := rfl
@[simp] theorem breakFrame_display_flushed (b : Bool) (s : State) :
    (breakFrame b s).display.flushed = s.display.flushed := rfl
@[simp] theorem breakFrame_display_lineMode (b : Bool) (s : State) :
    (breakFrame b s).display.lineMode = s.display.lineMode := rfl
@[simp] theorem breakFrame_display_broken (b : Bool) (s : State) :
    (breakFrame b s).display.broken = (s.display.broken || b) := rfl
@[simp] theorem breakFrame_display_frame (b : Bool) (s : State) :
    (breakFrame b s).display.frame = if b then { rows := [], draw := s.draws } else s.display.frame := rfl
@[simp] theorem breakFrame_draws (b : Bool) (s : State) :
    (breakFrame b s).draws = if b then s.draws + 1 else s.draws := rfl
/-- While the constraint holds nothing changes. -/
@[simp] theorem breakFrame_false (s : State) : breakFrame false s = s := by simp [breakFrame]

/-! ## `finishRun` -/

@[simp] theorem finishRun_now (s : State) : (finishRun s).now = s.now := rfl
@[simp] theorem finishRun_queue (s : State) : (finishRun s).queue = s.queue := rfl
@[simp] theorem finishRun_regs (s : State) : (finishRun s).regs = s.regs := rfl
@[simp] theorem finishRun_irqMask (s : State) : (finishRun s).irqMask = s.irqMask := rfl
@[simp] theorem finishRun_req (s : State) : (finishRun s).req = s.req := rfl
@[simp] theorem finishRun_cont (s : State) : (finishRun s).cont = s.cont := rfl
@[simp] theorem finishRun_loc (s : State) : (finishRun s).loc = s.loc := rfl
@[simp] theorem finishRun_cpuRun (s : State) : (finishRun s).cpuRun = .run := rfl
@[simp] theorem finishRun_seqNext (s : State) : (finishRun s).seqNext = none := rfl
@[simp] theorem finishRun_ram (s : State) : (finishRun s).ram = s.ram := rfl
@[simp] theorem finishRun_rom (s : State) : (finishRun s).rom = s.rom := rfl
@[simp] theorem finishRun_mapctl (s : State) : (finishRun s).mapctl = s.mapctl := rfl
@[simp] theorem finishRun_timers (s : State) : (finishRun s).timers = s.timers := rfl
@[simp] theorem finishRun_chipB (s : State) : (finishRun s).chipB = s.chipB := rfl
@[simp] theorem finishRun_intPending (s : State) : (finishRun s).intPending = s.intPending := rfl
@[simp] theorem finishRun_display (s : State) : (finishRun s).display = s.display := rfl
@[simp] theorem finishRun_palette (s : State) : (finishRun s).palette = s.palette := rfl
@[simp] theorem finishRun_draws (s : State) : (finishRun s).draws = s.draws := rfl
@[simp] theorem finishRun_out (s : State) : (finishRun s).out = s.out := rfl

/-! ## Memory and timers read through an update -/

@[simp] theorem suspend_ramRead (r : Request) (k : Cont) (s : State) (x : Addr) :
    ramRead (suspend r k s) x = ramRead s x := rfl
@[simp] theorem suspend_timer (r : Request) (k : Cont) (s : State) (m : Fin 12) :
    timer (suspend r k s) m = timer s m := rfl
@[simp] theorem suspend_spriteActive (r : Request) (k : Cont) (s : State) :
    spriteActive (suspend r k s) = spriteActive s := rfl
@[simp] theorem retire_ramRead (s : State) (x : Addr) :
    ramRead (retire s) x = ramRead s x := rfl
@[simp] theorem retire_timer (s : State) (m : Fin 12) :
    timer (retire s) m = timer s m := rfl
@[simp] theorem retire_spriteActive (s : State) :
    spriteActive (retire s) = spriteActive s := rfl
@[simp] theorem advancePc_ramRead (s : State) (x : Addr) :
    ramRead (advancePc s) x = ramRead s x := rfl
@[simp] theorem advancePc_timer (s : State) (m : Fin 12) :
    timer (advancePc s) m = timer s m := rfl
@[simp] theorem advancePc_spriteActive (s : State) :
    spriteActive (advancePc s) = spriteActive s := rfl
@[simp] theorem ramWrite_timer (s : State) (a : Addr) (v : Byte) (m : Fin 12) :
    timer (ramWrite s a v) m = timer s m := rfl
@[simp] theorem ramWrite_spriteActive (s : State) (a : Addr) (v : Byte) :
    spriteActive (ramWrite s a v) = spriteActive s := rfl
@[simp] theorem enqueue_ramRead (e : Action) (s : State) (x : Addr) :
    ramRead (enqueue e s) x = ramRead s x := rfl
@[simp] theorem enqueue_timer (e : Action) (s : State) (m : Fin 12) :
    timer (enqueue e s) m = timer s m := rfl
@[simp] theorem enqueue_spriteActive (e : Action) (s : State) :
    spriteActive (enqueue e s) = spriteActive s := rfl
@[simp] theorem pushAfter_ramRead (t d : Nat) (k : Kind) (s : State) (x : Addr) :
    ramRead (pushAfter t d k s) x = ramRead s x := rfl
@[simp] theorem pushAfter_timer (t d : Nat) (k : Kind) (s : State) (m : Fin 12) :
    timer (pushAfter t d k s) m = timer s m := rfl
@[simp] theorem pushAfter_spriteActive (t d : Nat) (k : Kind) (s : State) :
    spriteActive (pushAfter t d k s) = spriteActive s := rfl
@[simp] theorem setTimer_ramRead (n : Fin 12) (T : Timer) (s : State) (x : Addr) :
    ramRead (setTimer n T s) x = ramRead s x := rfl
@[simp] theorem setTimer_spriteActive (n : Fin 12) (T : Timer) (s : State) :
    spriteActive (setTimer n T s) = spriteActive s := rfl
@[simp] theorem storeB_ramRead (o v : Byte) (s : State) (x : Addr) :
    ramRead (storeB o v s) x = ramRead s x := rfl
@[simp] theorem storeB_timer (o v : Byte) (s : State) (m : Fin 12) :
    timer (storeB o v s) m = timer s m := rfl
@[simp] theorem storeB_spriteActive (o v : Byte) (s : State) :
    spriteActive (storeB o v s) = spriteActive s := rfl
@[simp] theorem nextDraw_ramRead (s : State) (x : Addr) :
    ramRead (nextDraw s) x = ramRead s x := rfl
@[simp] theorem nextDraw_timer (s : State) (m : Fin 12) :
    timer (nextDraw s) m = timer s m := rfl
@[simp] theorem nextDraw_spriteActive (s : State) :
    spriteActive (nextDraw s) = spriteActive s := rfl
@[simp] theorem sprEmit_ramRead (r : SprReq) (k : SprCont) (s : State) (x : Addr) :
    ramRead (sprEmit r k s) x = ramRead s x := rfl
@[simp] theorem sprEmit_timer (r : SprReq) (k : SprCont) (s : State) (m : Fin 12) :
    timer (sprEmit r k s) m = timer s m := rfl
@[simp] theorem addColl_ramRead (src : DepoSource) (p : Pixel) (s : State) (x : Addr) :
    ramRead (addColl src p s) x = ramRead s x := rfl
@[simp] theorem addColl_timer (src : DepoSource) (p : Pixel) (s : State) (m : Fin 12) :
    timer (addColl src p s) m = timer s m := rfl
@[simp] theorem addVideo_ramRead (p : Pixel) (s : State) (x : Addr) :
    ramRead (addVideo p s) x = ramRead s x := rfl
@[simp] theorem addVideo_timer (p : Pixel) (s : State) (m : Fin 12) :
    timer (addVideo p s) m = timer s m := rfl
@[simp] theorem paletteWrite_ramRead (t : Nat) (o v : Byte) (s : State) (x : Addr) :
    ramRead (paletteWrite t o v s) x = ramRead s x := rfl
@[simp] theorem paletteWrite_timer (t : Nat) (o v : Byte) (s : State) (m : Fin 12) :
    timer (paletteWrite t o v s) m = timer s m := rfl
@[simp] theorem paletteWrite_spriteActive (t : Nat) (o v : Byte) (s : State) :
    spriteActive (paletteWrite t o v s) = spriteActive s := rfl
@[simp] theorem irqUpdate_ramRead (s : State) (x : Addr) :
    ramRead (irqUpdate s) x = ramRead s x := rfl
@[simp] theorem irqUpdate_timer (s : State) (m : Fin 12) :
    timer (irqUpdate s) m = timer s m := rfl
@[simp] theorem irqUpdate_spriteActive (s : State) :
    spriteActive (irqUpdate s) = spriteActive s := rfl
@[simp] theorem finishLine_ramRead (t : Nat) (r : Byte) (s : State) (x : Addr) :
    ramRead (finishLine t r s) x = ramRead s x := rfl
@[simp] theorem finishLine_timer (t : Nat) (r : Byte) (s : State) (m : Fin 12) :
    timer (finishLine t r s) m = timer s m := rfl
@[simp] theorem finishLine_spriteActive (t : Nat) (r : Byte) (s : State) :
    spriteActive (finishLine t r s) = spriteActive s := rfl
@[simp] theorem breakFrame_ramRead (b : Bool) (s : State) (x : Addr) :
    ramRead (breakFrame b s) x = ramRead s x := rfl
@[simp] theorem breakFrame_timer (b : Bool) (s : State) (m : Fin 12) :
    timer (breakFrame b s) m = timer s m := rfl
@[simp] theorem breakFrame_spriteActive (b : Bool) (s : State) :
    spriteActive (breakFrame b s) = spriteActive s := rfl
@[simp] theorem finishRun_ramRead (s : State) (x : Addr) :
    ramRead (finishRun s) x = ramRead s x := rfl
@[simp] theorem finishRun_timer (s : State) (m : Fin 12) :
    timer (finishRun s) m = timer s m := rfl

@[simp] theorem setTimer_timer_self (n : Fin 12) (T : Timer) (s : State) :
    timer (setTimer n T s) n = T := by simp [timer, setTimer]

theorem setTimer_timer_ne {n m : Fin 12} (h : m ≠ n) (T : Timer) (s : State) :
    timer (setTimer n T s) m = timer s m := by
  have : n.val ≠ m.val := fun e => h (Fin.ext e.symm)
  simp [timer, setTimer, this]

end Sys2Proof.Machine
end

