-- ==== Sys2Proof/Laws/Bus.lean ====
section
/-! SUPPORT. Laws/Bus.lean: what servicing one CPU request does (20_memory.md R81, R86, R103, R110,
R111). -/

namespace Sys2Proof.Machine

/-- The cost of a request that reaches no chip is at most `slowCost`. -/
theorem cost_le_slow {r : Request} {s : State} (h : onChip s r.addr = false) :
    cost r s ≤ Config.slowCost := by
  have hf : Config.fastCost ≤ Config.slowCost := by simp only [Config.slowCost]; omega
  have hm : cost.memoryCost r s ≤ Config.slowCost := by
    simp only [cost.memoryCost]
    split
    · exact Nat.le_refl _
    · split
      · exact hf
      · exact Nat.le_refl _
  simp only [onChip] at h
  simp only [cost]
  split <;> simp_all

/-- Every CPU request takes at least one tick. -/
theorem cost_pos (r : Request) (s : State) : 0 < cost r s := by
  have hf : 0 < Config.fastCost := by simp only [Config.fastCost]; omega
  have hs : 0 < Config.slowCost := by simp only [Config.slowCost]; omega
  simp only [cost]
  split
  · simp [Config.chipCost]
  · simp [Config.chipCost]
  · exact hs
  · simp only [cost.memoryCost]; split <;> (try split) <;> assumption
  · simp only [cost.memoryCost]; split <;> (try split) <;> assumption

/-- A read that reaches no chip has no effect beside its byte. -/
theorem busRead_plain {a : Addr} {s : State} (h : onChip s a = false) : busRead a s = (byteAt s a, s) := by
  simp only [onChip] at h
  simp only [byteAt, busRead]
  split <;> simp_all

/-- A read that reaches no chip: the byte at its address, the predictor and the clock. -/
theorem serve_read {r : Request} {s : State} (h : onChip s r.addr = false) (hk : r.kind ≠ .write) :
    serve r s =
      (byteAt s r.addr, { s with seqNext := predict r s.mapctl, now := s.now + cost r s }) := by
  simp only [serve, access, if_neg hk, busRead_plain h]

/-- A write of RAM, or of RAM under the ROM overlay. -/
theorem busWrite_ram {a : Addr} {v : Byte} {s : State} (h : onChip s a = false) (ha : a ≠ 0xFFF9#16) :
    busWrite a v s = ramWrite s a v := by
  have hm : regionOf a s.mapctl ≠ .mapctl := by
    simp only [regionOf, if_neg ha]
    repeat' split
    all_goals simp
  simp only [onChip] at h
  simp only [busWrite]
  split <;> simp_all

/-- A write of MAPCTL. -/
theorem busWrite_mapctl (v : Byte) (s : State) : busWrite 0xFFF9#16 v s = { s with mapctl := v } := by
  simp [busWrite, regionOf]

/-- A write that reaches no chip, in one form: RAM unless the address is MAPCTL's. -/
theorem serve_write {a : Addr} {v : Byte} {s : State} (h : onChip s a = false) :
    (serve (writeReq a v) s).2 =
      { s with
        ram := if a = 0xFFF9#16 then s.ram else memWrite s.ram a.toNat v
        mapctl := if a = 0xFFF9#16 then v else s.mapctl
        seqNext := none, now := s.now + cost (writeReq a v) s } := by
  by_cases ha : a = 0xFFF9#16
  · subst ha
    simp [serve, access, writeReq, busWrite_mapctl, predict]
  · simp [serve, access, writeReq, busWrite_ram h ha, predict, ha, ramWrite]

/-- Page 0 and the stack page are RAM whatever MAPCTL holds. -/
theorem regionOf_low {a : Addr} (m : Byte) (h : a.toNat < 0x200) : regionOf a m = .ram := by
  have h₁ : a ≠ 0xFFF9#16 := fun e => by subst e; simp at h
  have h₂ : a ≠ 0xFFF8#16 := fun e => by subst e; simp at h
  have h₃ : ¬ 0xFFFA#16 ≤ a := by simp only [BitVec.le_def, BitVec.toNat_ofNat]; omega
  have h₄ : ¬ 0xFE00#16 ≤ a := by simp only [BitVec.le_def, BitVec.toNat_ofNat]; omega
  have hh : (hiByte a).toNat = a.toNat / 256 := by
    simp only [hiByte, BitVec.extractLsb'_toNat, Nat.shiftRight_eq_div_pow]
    omega
  have h₅ : hiByte a ≠ 0xFD#8 := fun e => by rw [e] at hh; simp at hh; omega
  have h₆ : hiByte a ≠ 0xFC#8 := fun e => by rw [e] at hh; simp at hh; omega
  simp [regionOf, h₁, h₂, h₃, h₄, h₅, h₆]

/-- A zero-page address reaches no chip. -/
@[simp] theorem onChip_zext (s : State) (z : Byte) : onChip s (zext z) = false := by
  have : (zext z).toNat < 0x200 := by
    have := z.isLt
    simp only [zext, BitVec.toNat_setWidth]; omega
  simp [onChip, regionOf_low _ this]

/-- A stack address is below 0x0200. -/
theorem stackAt_lt (sp : Byte) : (stackAt sp).toNat < 0x200 := by
  have := sp.isLt
  simp only [stackAt, zext, BitVec.toNat_add, BitVec.toNat_setWidth, BitVec.toNat_ofNat]; omega

/-- A stack address reaches no chip. -/
@[simp] theorem onChip_stackAt (s : State) (sp : Byte) : onChip s (stackAt sp) = false := by
  simp [onChip, regionOf_low _ (stackAt_lt sp)]

/-- MAPCTL is not at a stack address. -/
@[simp] theorem stackAt_ne_mapctl (sp : Byte) : stackAt sp ≠ 0xFFF9#16 := fun e => by
  have := stackAt_lt sp
  rw [e] at this
  simp at this

/-- A byte of page 0 or of the stack page is the RAM byte. -/
theorem byteAt_low {a : Addr} (s : State) (h : a.toNat < 0x200) : byteAt s a = ramRead s a := by
  simp [byteAt, busRead, regionOf_low _ h]

/-- The vector page reaches no chip. -/
theorem onChip_vectors (s : State) {a : Addr} (h : 0xFFFA ≤ a.toNat) : onChip s a = false := by
  have h₁ : a ≠ 0xFFF9#16 := fun e => by subst e; simp at h
  have h₂ : a ≠ 0xFFF8#16 := fun e => by subst e; simp at h
  have h₃ : 0xFFFA#16 ≤ a := by simp only [BitVec.le_def, BitVec.toNat_ofNat]; omega
  simp only [onChip, regionOf, if_neg h₁, if_neg h₂, if_pos h₃]
  cases s.mapctl.getLsbD 3 <;> simp

end Sys2Proof.Machine
end

