-- ==== Sys2Proof/Laws/Events.lean ====
section
/-! SUPPORT. Laws/Events.lean: what the shared operations of the queue, the interrupt status and the
timers do. -/

namespace Sys2Proof.Machine

/-! ## The queue -/

/-- The actions after an insertion are the old ones and the new one. -/
@[simp] theorem mem_insertAction {e x : Action} {q : List Action} :
    x ∈ insertAction e q ↔ x = e ∨ x ∈ q := by
  induction q with
  | nil => simp [insertAction]
  | cons y q ih =>
    simp only [insertAction]
    split
    · simp only [List.mem_cons, ih]; grind
    · simp

/-- Enqueuing changes the queue alone. -/
theorem enqueue_eq (e : Action) (s : State) : enqueue e s = { s with queue := insertAction e s.queue } := rfl

/-- `pushAfter` is a `push` that cannot fault (20_memory.md R91). -/
theorem push_pushAfter (t delay : Nat) (k : Kind) (s : State) :
    push t (t + delay) k s = .next (pushAfter t delay k s) := by
  simp only [push, pushAfter, if_neg (Nat.not_lt.2 (Nat.le_add_right t delay))]

/-- `pop` takes the head of the queue. -/
theorem pop_eq_some {s t : State} {e : Action} :
    pop s = some (e, t) ↔ s.queue = e :: t.queue ∧ t = { s with queue := t.queue } := by
  simp only [pop]
  split
  · next h => simp [h]
  · next x q h =>
    simp only [Option.some.injEq, Prod.mk.injEq, h, List.cons.injEq]
    constructor
    · rintro ⟨rfl, rfl⟩; exact ⟨⟨rfl, rfl⟩, rfl⟩
    · rintro ⟨⟨rfl, rfl⟩, ht⟩; exact ⟨rfl, ht.symm⟩

/-! ## Interrupt status -/

/-- `setPending` writes the pending bits, and tells a change at its tick (60_exceptions.md R502). -/
theorem setPending_eq (t : Nat) (v : Byte) (s : State) :
    setPending t v s =
      { s with
        intPending := v
        queue := if v = s.intPending then s.queue
          else insertAction { tick := t, kind := .irqUpdate } s.queue } := by
  simp only [setPending]
  split
  · next h => subst h; rfl
  · simp [pushAfter, enqueue]

/-! ## Timers -/

/-- The timer written, and every other timer as it was. -/
@[simp] theorem timer_setTimer (n m : Fin 12) (T : Timer) (s : State) :
    timer (setTimer n T s) m = if m = n then T else timer s m := by
  simp only [timer, setTimer, Fin.getElem_fin, Vector.getElem_set]
  by_cases h : m = n
  · simp [h]
  · simp [h, show n.val ≠ m.val from fun e => h (Fin.ext e.symm)]

/-- `schedule` writes one timer, and enqueues its fire or nothing (60_exceptions.md R481). -/
theorem schedule_eq (n : Fin 12) (T : Timer) (t : Nat) (s : State) :
    schedule n T t s =
      { s with
        timers :=
          s.timers.set n { T with base := t, predicted := if T.runs then some (t + T.delay) else none }
        queue := if T.runs then insertAction { tick := t + T.delay, kind := .timer n } s.queue
          else s.queue } := by
  simp only [schedule]
  split <;> rfl

/-- The timers after `schedule`. -/
theorem timer_schedule (n m : Fin 12) (T : Timer) (t : Nat) (s : State) :
    timer (schedule n T t s) m =
      if m = n then { T with base := t, predicted := if T.runs then some (t + T.delay) else none }
      else timer s m := by
  rw [schedule_eq]
  exact timer_setTimer n m _ s

/-- A register write never takes an action out of the queue. -/
theorem mem_queue_schedule (n : Fin 12) (T : Timer) (t : Nat) (s : State) {e : Action}
    (h : e ∈ s.queue) : e ∈ (schedule n T t s).queue := by
  rw [schedule_eq]
  dsimp only
  split
  · exact mem_insertAction.2 (.inr h)
  · exact h

/-! ## The timing constraint of the display -/

/-- The constraint on an hblank period (60_exceptions.md R513). -/
theorem dmaFits_iff (p : Nat) :
    dmaFits p = true ↔ Config.dmaFirstOffset + 9 * Config.dmaBurstInterval < p := by simp [dmaFits]

/-- An hblank does not break the frame when the open row, if there is one, has its ten bursts and
they were due before the hblank (60_exceptions.md R513). -/
theorem checkBursts_of_fits {t : Nat} {s : State}
    (h : s.display.row = none ∨
      10 ≤ s.display.burst ∧
        s.display.lineTick + Config.dmaFirstOffset + 9 * Config.dmaBurstInterval < t) :
    checkBursts t s = s := by
  have hb : (s.display.row.isSome &&
      (decide (s.display.burst < 10) || !dmaFits (t - s.display.lineTick))) = false := by
    obtain h | ⟨hb, ht⟩ := h
    · simp [h]
    · have : dmaFits (t - s.display.lineTick) = true := (dmaFits_iff _).2 (by omega)
      simp [this, Nat.not_lt.2 hb]
  rw [checkBursts, hb, breakFrame_false]

/-- The period timer 0 is set to (60_exceptions.md R482, R513). -/
theorem hblankPeriod_eq_some {s : State} {p : Nat} :
    hblankPeriod s = some p ↔
      (timer s 0).enReload = true ∧ (timer s 0).runs = true ∧
        ((timer s 0).backup.toNat + 1) * (timer s 0).unit = p := by
  simp only [hblankPeriod]
  split <;> simp_all

/-! ## Reset -/

/-- The memory at power-on has the canonical form. -/
theorem reset_ram_wf : Memory.wf 65536 State.reset.ram = true := rfl

end Sys2Proof.Machine
end

