-- ==== Sys2Proof/Laws/Ops.lean ====
section
/-! SUPPORT. Laws/Ops.lean: what performing a bus sequence does (40_cpu_machine.md R200, R217). -/

namespace Sys2Proof.Machine

/-! ## One element at a time -/

/-- The end of a sequence. -/
@[simp] theorem perform_nil (s : State) : perform [] s = retire s := rfl

/-- An internal operation. -/
theorem perform_internal {m : Micro} {rest : List Micro} {s : State} (h : m.request s = none) :
    perform (m :: rest) s = perform rest (m.after 0 s) := by
  simp only [perform, h]

/-- A request made on the CPU's turn. -/
theorem perform_request {m : Micro} {rest : List Micro} {s : State} {r : Request}
    (h : m.request s = some r) (ht : turn (suspend r (.running (m :: rest)) (m.before s)) = .cpu) :
    perform (m :: rest) s =
      perform rest (m.after (serve r (suspend r (.running (m :: rest)) (m.before s))).1
        (serve r (suspend r (.running (m :: rest)) (m.before s))).2) := by
  simp only [perform, h, if_pos ht]

/-- A request at which the CPU suspends, since it is another agent's turn. -/
theorem perform_suspend {m : Micro} {rest : List Micro} {s : State} {r : Request}
    (h : m.request s = some r) (ht : turn (suspend r (.running (m :: rest)) (m.before s)) ≠ .cpu) :
    perform (m :: rest) s = suspend r (.running (m :: rest)) (m.before s) := by
  simp only [perform, h, if_neg ht]

/-- The spec's one request for each arbiter step: the same sequence, up to its next request. -/
theorem emit_request {m : Micro} {rest : List Micro} {s : State} {r : Request}
    (h : m.request s = some r) :
    emit (m :: rest) s = suspend r (.running (m :: rest)) (m.before s) := by
  simp only [emit, h]

/-! ## Quiet states -/

/-- In a quiet state it is the CPU's turn. -/
theorem turn_of_quiet {n : Nat} {s : State} (h : Quiet n s) : turn s = .cpu := by
  obtain ⟨h₁, h₂, h₃⟩ := h
  have hd : due s = false := by
    simp only [due]
    split
    · rfl
    · next e q hq =>
      have := h₃ e (by simp [hq])
      simp only [decide_eq_false_iff_not]
      omega
  simp [turn, hd, h₁, h₂]

/-- A request of at most `slowCost` leaves a state that is quiet for one request less. -/
theorem quiet_after {n : Nat} {s t : State} (h : Quiet (n + 1) s) (hr : t.cpuRun = s.cpuRun)
    (hs : spriteActive t = spriteActive s) (hq : t.queue = s.queue)
    (hn : t.now ≤ s.now + Config.slowCost) : Quiet n t := by
  obtain ⟨h₁, h₂, h₃⟩ := h
  refine ⟨hr ▸ h₁, hs ▸ h₂, fun e he => ?_⟩
  have := h₃ e (hq ▸ he)
  rw [Nat.add_mul] at this
  omega

/-- Being quiet depends on four fields alone. -/
theorem quiet_congr {n : Nat} {s t : State} (h : Quiet n s) (hr : t.cpuRun = s.cpuRun)
    (hs : spriteActive t = spriteActive s) (hq : t.queue = s.queue) (hn : t.now = s.now) : Quiet n t := by
  obtain ⟨h₁, h₂, h₃⟩ := h
  exact ⟨hr ▸ h₁, hs ▸ h₂, fun e he => by rw [hn]; exact h₃ e (hq ▸ he)⟩

/-! ## A sequence performed without interruption -/

/-- The byte at an address that reaches no chip, as a function of RAM, ROM and MAPCTL alone. -/
def plainByte (s : State) (a : Addr) : Byte :=
  match regionOf a s.mapctl with
  | .ram => memRead s.ram a.toNat
  | .rom i => s.rom.getD i 0
  | .mapctl => s.mapctl
  | .chipA _ => 0
  | .chipB _ => 0

/-- `byteAt` off the chip pages. -/
theorem byteAt_plain {s : State} {a : Addr} (h : onChip s a = false) : byteAt s a = plainByte s a := by
  simp only [onChip] at h
  simp only [byteAt, busRead, plainByte]
  split <;> simp_all [ramRead, romRead]

/-- The access of a request that reaches no chip, without its time. -/
def plainAccess (r : Request) (s : State) : Byte × State :=
  if r.kind = .write then
    (0, { s with
          ram := if r.addr = 0xFFF9#16 then s.ram else memWrite s.ram r.addr.toNat r.value
          mapctl := if r.addr = 0xFFF9#16 then r.value else s.mapctl })
  else (plainByte s r.addr, s)

/-- A sequence performed without interruption and without its time. -/
def calm : List Micro → State → State
  | [], s => retire s
  | m :: rest, s =>
    match m.request s with
    | none => calm rest (m.after 0 s)
    | some r =>
      calm rest (m.after (plainAccess r (suspend r (.running (m :: rest)) (m.before s))).1
        (plainAccess r (suspend r (.running (m :: rest)) (m.before s))).2)

/-- At most `n` requests are made, and none of them reaches a chip. -/
def offChip : Nat → List Micro → State → Prop
  | _, [], _ => True
  | n, m :: rest, s =>
    match m.request s with
    | none => offChip n rest (m.after 0 s)
    | some r =>
      match n with
      | 0 => False
      | n + 1 =>
        onChip s r.addr = false ∧
          offChip n rest (m.after (plainAccess r (suspend r (.running (m :: rest)) (m.before s))).1
            (plainAccess r (suspend r (.running (m :: rest)) (m.before s))).2)

/-- Equal but for the clock and the predictor. -/
def SameButTime (s t : State) : Prop := t = { s with now := t.now, seqNext := t.seqNext }

theorem Micro.request_time (m : Micro) (s : State) (n : Nat) (p : Option Addr) :
    m.request { s with now := n, seqNext := p } = m.request s := by
  cases m with
  | discard x => cases x <;> rfl
  | discardIfCrossed x => cases x <;> rfl
  | read x _ => cases x <;> rfl
  | write x _ => cases x <;> rfl
  | writeBack x _ => cases x <;> rfl
  | _ => rfl

theorem Micro.before_time (m : Micro) (s : State) (n : Nat) (p : Option Addr) :
    m.before { s with now := n, seqNext := p } = { m.before s with now := n, seqNext := p } := by
  cases m <;> rfl

theorem Micro.after_time (m : Micro) (v : Byte) (s : State) (n : Nat) (p : Option Addr) :
    m.after v { s with now := n, seqNext := p } = { m.after v s with now := n, seqNext := p } := by
  cases m <;> rfl

@[simp] theorem Micro.before_frame (m : Micro) (s : State) :
    (m.before s).cpuRun = s.cpuRun ∧ (m.before s).queue = s.queue ∧ (m.before s).now = s.now ∧
      (m.before s).spr = s.spr ∧ (m.before s).mapctl = s.mapctl ∧ (m.before s).seqNext = s.seqNext := by
  cases m <;> exact ⟨rfl, rfl, rfl, rfl, rfl, rfl⟩

theorem Micro.after_frame (m : Micro) (v : Byte) (s : State) :
    (m.after v s).cpuRun = s.cpuRun ∧ (m.after v s).queue = s.queue ∧ (m.after v s).now = s.now ∧
      (m.after v s).spr = s.spr ∧ (m.after v s).mapctl = s.mapctl ∧ (m.after v s).seqNext = s.seqNext := by
  cases m <;> exact ⟨rfl, rfl, rfl, rfl, rfl, rfl⟩

/-- Servicing a request that reaches no chip, apart from time. -/
theorem serve_plain {r : Request} {s : State} (h : onChip s r.addr = false) :
    ∃ n p, n ≤ s.now + Config.slowCost ∧
      serve r s = ((plainAccess r s).1, { (plainAccess r s).2 with now := n, seqNext := p }) := by
  refine ⟨s.now + cost r s, predict r s.mapctl, by have := cost_le_slow h; omega, ?_⟩
  by_cases hk : r.kind = .write
  · have hb := h
    by_cases ha : r.addr = 0xFFF9#16
    · simp [serve, access, plainAccess, hk, ha, busWrite_mapctl]
    · simp [serve, access, plainAccess, hk, busWrite_ram h ha, ha, ramWrite]
  · rw [serve_read h hk, byteAt_plain h]
    simp [plainAccess, hk]

/-- A sequence of at most `n` requests off the chip pages, performed in a quiet state, does what `calm`
says, apart from the clock and the predictor. -/
theorem perform_calm {l : List Micro} {n : Nat} {s : State} (hq : Quiet n s) (ho : offChip n l s) :
    SameButTime (calm l s) (perform l s) := by
  suffices H : ∀ (l : List Micro) (n : Nat) (s : State) (t : Nat) (p : Option Addr),
      Quiet n { s with now := t, seqNext := p } → offChip n l s →
      SameButTime (calm l s) (perform l { s with now := t, seqNext := p }) from
    H l n s s.now s.seqNext hq ho
  intro l
  induction l with
  | nil => intro n s t p _ _; rfl
  | cons m rest ih =>
    intro n s t p hq ho
    cases hr : m.request s with
    | none =>
      rw [perform_internal (by rw [Micro.request_time, hr]), Micro.after_time]
      simp only [calm, hr]
      simp only [offChip, hr] at ho
      have f := Micro.after_frame m 0 s
      refine ih n _ t p (quiet_congr hq ?_ ?_ ?_ rfl) ho
      · exact f.1
      · simp only [spriteActive, f.2.2.2.1]
      · exact f.2.1
    | some r =>
      cases n with
      | zero => simp only [offChip, hr] at ho
      | succ n =>
        simp only [offChip, hr] at ho
        obtain ⟨hc, ho⟩ := ho
        have f := Micro.before_frame m s
        have hs : suspend r (.running (m :: rest)) (m.before { s with now := t, seqNext := p }) =
            { suspend r (.running (m :: rest)) (m.before s) with now := t, seqNext := p } := by
          rw [Micro.before_time]; rfl
        have hq' : Quiet (n + 1) { suspend r (.running (m :: rest)) (m.before s) with now := t, seqNext := p } := by
          refine quiet_congr hq ?_ ?_ ?_ rfl
          · exact f.1
          · simp [spriteActive]
          · exact f.2.1
        rw [perform_request (by rw [Micro.request_time, hr]) (by rw [hs]; exact turn_of_quiet hq'), hs]
        have hc' : onChip { suspend r (.running (m :: rest)) (m.before s) with now := t, seqNext := p } r.addr
            = false := by
          simpa [onChip, f.2.2.2.2.1] using hc
        obtain ⟨t', p', hle, he⟩ := serve_plain hc'
        have hp : plainAccess r { suspend r (.running (m :: rest)) (m.before s) with now := t, seqNext := p } =
            ((plainAccess r (suspend r (.running (m :: rest)) (m.before s))).1,
              { (plainAccess r (suspend r (.running (m :: rest)) (m.before s))).2 with
                now := t, seqNext := p }) := by
          simp only [plainAccess]; split <;> rfl
        rw [he, hp]
        dsimp only
        rw [Micro.after_time]
        simp only [calm, hr]
        refine ih n _ t' p' ?_ ho
        have g := Micro.after_frame m (plainAccess r (suspend r (.running (m :: rest)) (m.before s))).1
          (plainAccess r (suspend r (.running (m :: rest)) (m.before s))).2
        have hx : (plainAccess r (suspend r (.running (m :: rest)) (m.before s))).2.cpuRun = s.cpuRun ∧
            (plainAccess r (suspend r (.running (m :: rest)) (m.before s))).2.queue = s.queue ∧
            (plainAccess r (suspend r (.running (m :: rest)) (m.before s))).2.spr = s.spr := by
          simp only [plainAccess]
          split <;> exact ⟨f.1, f.2.1, f.2.2.2.1⟩
        refine quiet_after hq ?_ ?_ ?_ hle
        · exact g.1.trans hx.1
        · simp only [spriteActive, g.2.2.2.1, hx.2.2]
        · exact g.2.1.trans hx.2.1

end Sys2Proof.Machine
end

