-- ==== Sys2Proof/Laws/Exec.lean ====
section
/-! SUPPORT. Laws/Exec.lean: what `exec` and `step` do, once for all instructions. -/

namespace Sys2Proof.Machine

/-- The meaning of an instruction performs the sequence that the arbiter step emits one request at a
time. -/
theorem exec_eq_meaning (i : Instr) (s : State) : exec i s = meaning (program i s.regs) s := by
  cases i <;> rfl

/-- Every instruction goes on to a next state. -/
theorem exec_eq_next (i : Instr) (s : State) : exec i s = .next (perform (program i s.regs) s) :=
  exec_eq_meaning i s

/-- A step, by whose turn it is. -/
theorem step_of_turn (s : State) :
    step s =
      match turn s with
      | .cpu => cpuTurn 3 s
      | .event => .next (drain s)
      | .sprite => outcome (spriteStep s)
      | .idle => .next (idleJump s)
      | .stuck => .fault .stuck := rfl

/-- An arbiter step on the CPU's turn emits what the response resumes. -/
theorem arbiterStep_cpu {s : State} (h : turn s = .cpu) : arbiterStep s = cpuStep s := by
  simp only [arbiterStep, h]

/-- The two faults of the CPU's side, and no other (40_cpu_machine.md R215). -/
theorem cpuService_error {s : State} {f : Fault} (h : cpuService s = .error f) :
    f = .noCpuRequest ∧ s.req = none ∨
      f = .wrongCpuRequest ∧ ∃ r, s.req = some r ∧ s.cont.kind ≠ some r.kind := by
  simp only [cpuService] at h
  split at h
  · next hr => simp only [Except.error.injEq] at h; exact .inl ⟨h.symm, hr⟩
  · next r hr =>
    split at h
    · cases h
    · next hk => simp only [Except.error.injEq] at h; exact .inr ⟨h.symm, r, hr, hk⟩

/-- The two faults of the sprite engine's side, and no other (60_exceptions.md R451). -/
theorem spriteStep_error {s : State} {f : Fault} (h : spriteStep s = .error f) :
    f = .noSpriteRequest ∧ s.spr.req = none ∨
      f = .wrongSpriteRequest ∧ ∃ r, s.spr.req = some r ∧ s.spr.cont.awaits r.kind = false := by
  simp only [spriteStep] at h
  split at h
  · next hr => simp only [Except.error.injEq] at h; exact .inl ⟨h.symm, hr⟩
  · next r hr =>
    split at h
    · cases h
    · next hk => simp only [Except.error.injEq] at h; exact .inr ⟨h.symm, r, hr, by simpa using hk⟩

/-- What a sprite step does, when it does not fault: the request is serviced, its cost charged, and the
engine resumed. -/
theorem spriteStep_ok {s t : State} (h : spriteStep s = .ok t) :
    ∃ r, s.spr.req = some r ∧ s.spr.cont.awaits r.kind = true ∧
      t = sprResume (sprService Config.depoSource r s).1
        { (sprService Config.depoSource r s).2 with
          now := (sprService Config.depoSource r s).2.now + Config.sprCost r.kind } := by
  simp only [spriteStep] at h
  split at h
  · cases h
  · next r hr =>
    split at h
    · next hk => exact ⟨r, hr, hk, by simpa using h.symm⟩
    · cases h

/-! ## Host calls -/

/-- A `get_sample` that returns has run `process` for the ticks of R106, and hands on the collaborator's
pair. -/
theorem getSample_returned {fuel acc rate : Nat} {s t : State} {l r : Int} {acc' : Nat}
    (h : getSample fuel acc rate s = .returned l r acc' t) :
    rate ≠ 0 ∧ acc' = (acc + Config.clockRate) % rate ∧
      ∃ s', process fuel ((acc + Config.clockRate) / rate) s = .returned s' ∧ t = nextDraw s' ∧
        (l, r) = Config.audioSample s'.draws := by
  simp only [getSample, sampleTicks] at h
  split at h
  · cases h
  · next hr =>
    split at h
    · next s' hs => cases h; exact ⟨hr, rfl, s', hs, rfl, rfl⟩
    · cases h
    · cases h

end Sys2Proof.Machine
end

