-- ==== Sys2Proof/Tests/Slice0.lean ====
section
/-! SUPPORT. Tests/Slice0.lean: one-step tests on small states, with the expected results from the
vectors of 95_test_vectors.md or from the rule a test names, and a witness for the hypotheses of every
statement. -/

namespace Sys2Proof.Tests

open Sys2Proof Sys2Proof.Machine

/-! ## Small states -/

/-- All six flags clear. -/
def p0 : Flags := { n := false, v := false, d := false, i := false, z := false, c := false }

/-- PC = 0200, S = FF, and the rest zero. -/
def r0 : Regs := { a := 0, x := 0, y := 0, s := 0xFF, pc := 0x0200, p := p0 }

/-- RAM holding the bytes given at an address. -/
def poke (s : State) (c : Addr × List Byte) : State := placeBytes c.1 c.2 s

/-- A machine at a fetch boundary with an empty queue, the registers and MAPCTL given, and bytes in RAM. -/
def machine (r : Regs) (mapctl : Byte) (cells : List (Addr × List Byte)) : State :=
  cells.foldl poke
    { State.reset with
      regs := r, mapctl := mapctl, cont := .boundary
      req := some { kind := .fetchOpcode, addr := r.pc, value := 0 } }

/-- The machine that is about to run the bytes given at PC. -/
def about (r : Regs) (code : List Byte) (cells : List (Addr × List Byte)) : State :=
  machine r 0 ((r.pc, code) :: cells)

/-- The state after a step. -/
def next (s : State) : State :=
  match step s with
  | .next t => t
  | .fault _ => State.reset
  | .refused _ => State.reset

/-- The state after one instruction. -/
def ran (r : Regs) (code : List Byte) (cells : List (Addr × List Byte)) : State := next (about r code cells)

/-- The arbiter steps up to the next fetch boundary: the requests of an instruction. -/
def requests : Nat → State → Nat
  | 0, _ => 0
  | fuel + 1, s =>
    match arbiterStep s with
    | .error _ => 0
    | .ok t => if t.cont = .boundary then 1 else requests fuel t + 1

/-- The requests of one instruction. -/
def counted (r : Regs) (code : List Byte) (cells : List (Addr × List Byte)) : Nat :=
  requests 12 (about r code cells)

/-! ## Well-formed byte lists (30_encoding.md R160) -/

/-- No byte, too few bytes and too many bytes are refused. -/
theorem test_ill_formed_refused :
    wellFormedBytes [] = false ∧ wellFormedBytes [0xA9] = false ∧ wellFormedBytes [0xAD, 0x34] = false ∧
      wellFormedBytes [0xEA, 0xEA] = false ∧ wellFormedBytes [0xA9, 0x01, 0x02] = false := by decide

/-- One byte list of each length is accepted. -/
theorem test_well_formed_accepted :
    wellFormedBytes [0xEA] = true ∧ wellFormedBytes [0x00, 0x77] = true ∧
      wellFormedBytes [0x20, 0x00, 0x03] = true := by decide

/-- A decoder with too few bytes refuses by name. -/
theorem test_short_refused :
    decode [] = .error .noOpcode ∧ decode [0xA9] = .error .missingOperand ∧
      decode [0xAD, 0x34] = .error .missingOperand := by decide

/-! ## Loads, stores, transfers, stack (vectors V30 to V45) -/

theorem test_lda_imm :
    (ran r0 [0xA9, 0x00] []).regs = { r0 with pc := 0x0202, p := { p0 with z := true } } ∧
      counted r0 [0xA9, 0x00] [] = 2 ∧
      (ran r0 [0xA9, 0x80] []).regs = { r0 with pc := 0x0202, a := 0x80, p := { p0 with n := true } } := by
  decide

theorem test_lda_zpx_wraps : (ran { r0 with x := 2 } [0xB5, 0xFF] [(0x0001, [0x33])]).regs.a = 0x33 := by
  decide

theorem test_lda_izy_crosses :
    (ran { r0 with y := 1 } [0xB1, 0x20] [(0x0020, [0xFF, 0x12]), (0x1300, [0x44])]).regs.a = 0x44 ∧
      counted { r0 with y := 1 } [0xB1, 0x20] [(0x0020, [0xFF, 0x12])] = 6 := by decide

theorem test_lda_izx_pointer_wraps :
    (ran r0 [0xA1, 0xFF] [(0x00FF, [0x00]), (0x0000, [0x30]), (0x3000, [0x9A])]).regs.a = 0x9A := by decide

/-- S5: two sequential operand fetches and two slow reads. -/
theorem test_lda_abs_cost :
    (ran r0 [0xAD, 0x34, 0x12] []).now =
      0 + Config.slowCost + Config.fastCost + Config.fastCost + Config.slowCost := rfl

theorem test_ldx_zpy : (ran { r0 with y := 1 } [0xB6, 0x10] [(0x0011, [0x7F])]).regs.x = 0x7F := by decide

theorem test_ldy_abx :
    (ran { r0 with x := 1 } [0xBC, 0xFF, 0x20] [(0x2100, [0x81])]).regs =
      { r0 with x := 1, y := 0x81, pc := 0x0203, p := { p0 with n := true } } := by decide

theorem test_sta_izp :
    ramRead (ran { r0 with a := 0x5C } [0x92, 0x40] [(0x0040, [0x00, 0x20])]) 0x2000 = 0x5C ∧
      counted { r0 with a := 0x5C } [0x92, 0x40] [(0x0040, [0x00, 0x20])] = 5 := by decide

theorem test_sta_abx :
    ramRead (ran { r0 with a := 0x11, x := 1 } [0x9D, 0xFF, 0x20] []) 0x2100 = 0x11 ∧
      counted { r0 with a := 0x11, x := 1 } [0x9D, 0xFF, 0x20] [] = 5 := by decide

theorem test_stx_zpy : ramRead (ran { r0 with x := 0x42, y := 1 } [0x96, 0xFF] []) 0x0000 = 0x42 := by decide

theorem test_sty_zp :
    ramRead (ran { r0 with y := 0x80 } [0x84, 0x10] []) 0x0010 = 0x80 ∧
      (ran { r0 with y := 0x80 } [0x84, 0x10] []).regs.p = p0 := by decide

theorem test_stz_abs : ramRead (ran r0 [0x9C, 0x00, 0x20] [(0x2000, [0xFF])]) 0x2000 = 0 := by decide

theorem test_tax : (ran { r0 with x := 5 } [0xAA] []).regs.x = 0 ∧ (ran r0 [0xAA] []).regs.p.z = true := by
  decide

theorem test_tay : (ran { r0 with a := 0x80 } [0xA8] []).regs.y = 0x80 := by decide

theorem test_txa : (ran { r0 with x := 0x21 } [0x8A] []).regs.a = 0x21 := by decide

theorem test_tya : (ran { r0 with y := 0x22 } [0x98] []).regs.a = 0x22 := by decide

theorem test_tsx : (ran r0 [0xBA] []).regs = { r0 with pc := 0x0201, x := 0xFF, p := { p0 with n := true } } := by
  decide

theorem test_txs : (ran r0 [0x9A] []).regs = { r0 with pc := 0x0201, s := 0 } := by decide

theorem test_php :
    ramRead (ran r0 [0x08] []) 0x01FF = 0x30 ∧ (ran r0 [0x08] []).regs.s = 0xFE := by decide

theorem test_plp :
    (ran { r0 with s := 0xFE } [0x28] [(0x01FF, [0xFF])]).regs.p =
      { n := true, v := true, d := true, i := true, z := true, c := true } := by decide

theorem test_pla :
    (ran { r0 with s := 0xFE, a := 1 } [0x68] [(0x01FF, [0x00])]).regs =
      { r0 with pc := 0x0201, p := { p0 with z := true } } := by decide

theorem test_phx_wraps :
    ramRead (ran { r0 with s := 0, x := 0x12 } [0xDA] []) 0x0100 = 0x12 ∧
      (ran { r0 with s := 0, x := 0x12 } [0xDA] []).regs.s = 0xFF := by decide

theorem test_pha : ramRead (ran { r0 with a := 0x99 } [0x48] []) 0x01FF = 0x99 := by decide

theorem test_phy : ramRead (ran { r0 with y := 0x98 } [0x5A] []) 0x01FF = 0x98 := by decide

theorem test_plx_wraps : (ran { r0 with s := 0xFF } [0xFA] [(0x0100, [0x80])]).regs.x = 0x80 := by decide

theorem test_ply : (ran { r0 with s := 0xFE } [0x7A] [(0x01FF, [0x07])]).regs.y = 0x07 := by decide

/-! ## Arithmetic (vectors V50 to V65) -/

theorem test_addition_vectors :
    addBin 0x58 0x46 true = ⟨0x9F, false, true⟩ ∧ addDec 0x58 0x46 true = ⟨0x05, true, true⟩ ∧
      addBin 0x7F 0x01 false = ⟨0x80, false, true⟩ ∧ addBin 0xFF 0x01 false = ⟨0x00, true, false⟩ ∧
      addBin 0x80 0x80 false = ⟨0x00, true, true⟩ ∧ addDec 0x99 0x01 false = ⟨0x00, true, false⟩ ∧
      addDec 0x09 0x01 false = ⟨0x10, false, false⟩ ∧ addDec 0x50 0x50 false = ⟨0x00, true, true⟩ ∧
      addDec 0x0F 0x01 false = ⟨0x16, false, false⟩ := by decide

theorem test_subtraction_vectors :
    subBin 0x00 0x01 true = ⟨0xFF, false, false⟩ ∧ subBin 0x80 0x01 true = ⟨0x7F, true, true⟩ ∧
      subBin 0x50 0x30 false = ⟨0x1F, true, false⟩ ∧ subDec 0x00 0x01 true = ⟨0x99, false, false⟩ ∧
      subDec 0x46 0x12 true = ⟨0x34, true, false⟩ ∧ subDec 0x40 0x13 false = ⟨0x26, true, false⟩ ∧
      subDec 0x32 0x02 false = ⟨0x29, true, false⟩ := by decide

theorem test_adc_imm :
    (ran { r0 with a := 0x58, p := { p0 with c := true } } [0x69, 0x46] []).regs =
        { r0 with a := 0x9F, pc := 0x0202, p := { p0 with n := true, v := true } } ∧
      counted { r0 with a := 0x58 } [0x69, 0x46] [] = 2 := by decide

theorem test_adc_decimal :
    (ran { r0 with a := 0x58, p := { p0 with c := true, d := true } } [0x69, 0x46] []).regs =
        { r0 with a := 0x05, pc := 0x0202, p := { p0 with v := true, c := true, d := true } } ∧
      counted { r0 with p := { p0 with d := true } } [0x69, 0x46] [] = 3 := by decide

theorem test_sbc_zp :
    (ran { r0 with a := 0x80, p := { p0 with c := true } } [0xE5, 0x10] [(0x0010, [0x01])]).regs =
      { r0 with a := 0x7F, pc := 0x0202, p := { p0 with v := true, c := true } } := by decide

theorem test_sbc_decimal :
    (ran { r0 with a := 0x00, p := { p0 with c := true, d := true } } [0xE9, 0x01] []).regs =
      { r0 with a := 0x99, pc := 0x0202, p := { p0 with n := true, d := true } } := by decide

/-! ## Logic, compare, bit test, increment (vectors V70 to V83) -/

theorem test_and : (ran { r0 with a := 0xF0 } [0x29, 0x0F] []).regs = { r0 with pc := 0x0202, p := { p0 with z := true } } := by
  decide

theorem test_ora :
    (ran { r0 with a := 0x01 } [0x09, 0x80] []).regs = { r0 with a := 0x81, pc := 0x0202, p := { p0 with n := true } } := by
  decide

theorem test_eor : (ran { r0 with a := 0xFF } [0x49, 0xFF] []).regs = { r0 with pc := 0x0202, p := { p0 with z := true } } := by
  decide

theorem test_cmp :
    (ran { r0 with a := 0x40 } [0xC9, 0x40] []).regs.p = { p0 with z := true, c := true } ∧
      (ran { r0 with a := 0x40 } [0xC9, 0x41] []).regs.p = { p0 with n := true } ∧
      (ran r0 [0xC9, 0x80] []).regs.p = { p0 with n := true } := by decide

theorem test_cpx : (ran { r0 with x := 0x10 } [0xE0, 0x0F] []).regs.p = { p0 with c := true } := by decide

theorem test_cpy : (ran r0 [0xC0, 0x00] []).regs.p = { p0 with z := true, c := true } := by decide

theorem test_bit_abs :
    (ran { r0 with a := 1 } [0x2C, 0x00, 0x20] [(0x2000, [0xC0])]).regs.p =
      { p0 with n := true, v := true, z := true } := by decide

theorem test_bit_imm : (ran { r0 with a := 1 } [0x89, 0xC0] []).regs.p = { p0 with z := true } := by decide

theorem test_inc_zp :
    ramRead (ran r0 [0xE6, 0x10] [(0x0010, [0xFF])]) 0x0010 = 0 ∧
      (ran r0 [0xE6, 0x10] [(0x0010, [0xFF])]).regs.p.z = true ∧ counted r0 [0xE6, 0x10] [] = 5 := by decide

theorem test_dec_acc : (ran r0 [0x3A] []).regs = { r0 with a := 0xFF, pc := 0x0201, p := { p0 with n := true } } := by
  decide

theorem test_inx : (ran { r0 with x := 0xFF } [0xE8] []).regs = { r0 with pc := 0x0201, p := { p0 with z := true } } := by
  decide

theorem test_iny : (ran { r0 with y := 0x7F } [0xC8] []).regs.y = 0x80 := by decide

theorem test_dex : (ran { r0 with x := 1 } [0xCA] []).regs = { r0 with pc := 0x0201, p := { p0 with z := true } } := by
  decide

theorem test_dey : (ran r0 [0x88] []).regs = { r0 with y := 0xFF, pc := 0x0201, p := { p0 with n := true } } := by
  decide

/-! ## Shifts and bit modify (vectors V90 to V97) -/

theorem test_asl_acc :
    (ran { r0 with a := 0x81 } [0x0A] []).regs = { r0 with a := 0x02, pc := 0x0201, p := { p0 with c := true } } := by
  decide

theorem test_lsr_acc :
    (ran { r0 with a := 0x01 } [0x4A] []).regs = { r0 with pc := 0x0201, p := { p0 with z := true, c := true } } := by
  decide

theorem test_rol_acc :
    (ran { r0 with a := 0x80 } [0x2A] []).regs = { r0 with pc := 0x0201, p := { p0 with z := true, c := true } } := by
  decide

theorem test_ror_acc :
    (ran { r0 with a := 0x01, p := { p0 with c := true } } [0x6A] []).regs =
      { r0 with a := 0x80, pc := 0x0201, p := { p0 with n := true, c := true } } := by decide

theorem test_asl_zp :
    ramRead (ran r0 [0x06, 0x20] [(0x0020, [0x40])]) 0x0020 = 0x80 ∧
      (ran r0 [0x06, 0x20] [(0x0020, [0x40])]).regs.p = { p0 with n := true } := by decide

theorem test_lsr_abx_crosses : counted { r0 with x := 1 } [0x5E, 0xFF, 0x20] [] = 7 := by decide

theorem test_tsb_zp :
    ramRead (ran { r0 with a := 0x0F } [0x04, 0x20] [(0x0020, [0xF0])]) 0x0020 = 0xFF ∧
      (ran { r0 with a := 0x0F } [0x04, 0x20] [(0x0020, [0xF0])]).regs.p = { p0 with z := true } := by decide

theorem test_trb_abs :
    ramRead (ran { r0 with a := 0x0F } [0x1C, 0x00, 0x30] [(0x3000, [0xFF])]) 0x3000 = 0xF0 ∧
      (ran { r0 with a := 0x0F } [0x1C, 0x00, 0x30] [(0x3000, [0xFF])]).regs.p = p0 := by decide

/-! ## Control flow (vectors V100 to V111) -/

theorem test_bpl_bmi :
    (ran r0 [0x10, 0x05] []).regs.pc = 0x0207 ∧ counted r0 [0x10, 0x05] [] = 3 ∧
      (ran r0 [0x30, 0x05] []).regs.pc = 0x0202 ∧ counted r0 [0x30, 0x05] [] = 2 := by decide

theorem test_bvc_crosses :
    (ran { r0 with pc := 0x02F0 } [0x50, 0x20] []).regs.pc = 0x0312 ∧
      counted { r0 with pc := 0x02F0 } [0x50, 0x20] [] = 4 := by decide

theorem test_bcc_back :
    (ran { r0 with pc := 0x0300 } [0x90, 0x80] []).regs.pc = 0x0282 ∧
      counted { r0 with pc := 0x0300 } [0x90, 0x80] [] = 4 := by decide

theorem test_bra_self : (ran r0 [0x80, 0xFE] []).regs.pc = 0x0200 ∧ counted r0 [0x80, 0xFE] [] = 3 := by decide

/-- The other flag tests, not taken and taken (R385, R387 to R389). -/
theorem test_other_branches :
    (ran r0 [0x70, 0x05] []).regs.pc = 0x0202 ∧ (ran r0 [0xB0, 0x05] []).regs.pc = 0x0202 ∧
      (ran r0 [0xF0, 0x05] []).regs.pc = 0x0202 ∧ (ran r0 [0xD0, 0x05] []).regs.pc = 0x0207 ∧
      (ran { r0 with p := { p0 with v := true } } [0x70, 0x05] []).regs.pc = 0x0207 ∧
      (ran { r0 with p := { p0 with c := true } } [0xB0, 0x05] []).regs.pc = 0x0207 ∧
      (ran { r0 with p := { p0 with z := true } } [0xF0, 0x05] []).regs.pc = 0x0207 := by decide

theorem test_jmp_abs : (ran r0 [0x4C, 0x34, 0x12] []).regs.pc = 0x1234 ∧ counted r0 [0x4C, 0x34, 0x12] [] = 3 := by
  decide

theorem test_jmp_ind :
    (ran r0 [0x6C, 0x00, 0x30] [(0x3000, [0x00, 0x80])]).regs.pc = 0x8000 ∧
      counted r0 [0x6C, 0x00, 0x30] [] = 6 ∧
      (ran r0 [0x6C, 0xFF, 0x12] [(0x12FF, [0x34, 0x12])]).regs.pc = 0x1234 := by decide

theorem test_jmp_iax : (ran { r0 with x := 2 } [0x7C, 0x00, 0x30] [(0x3002, [0x00, 0x40])]).regs.pc = 0x4000 := by
  decide

theorem test_jsr :
    ramReads (ran r0 [0x20, 0x00, 0x03] []) 0x01FE 2 = [0x02, 0x02] ∧
      (ran r0 [0x20, 0x00, 0x03] []).regs = { r0 with s := 0xFD, pc := 0x0300 } ∧
      counted r0 [0x20, 0x00, 0x03] [] = 6 := by decide

/-- JSR reads its third byte after the pushes, so it may be one the pushes wrote. -/
theorem test_jsr_fetches_late :
    (ran { r0 with pc := 0x01FD, s := 0xFF } [0x20, 0x00] []).regs.pc = 0x0100 := by decide

theorem test_rts :
    (ran { r0 with pc := 0x0300, s := 0xFD } [0x60] [(0x01FE, [0x02, 0x02])]).regs = { r0 with pc := 0x0203 } ∧
      counted { r0 with pc := 0x0300, s := 0xFD } [0x60] [] = 6 := by decide

/-- V110, with MAPCTL = 08 so that the vector comes from RAM. -/
def brkMachine : State :=
  machine { r0 with pc := 0x0400, p := { p0 with d := true, c := true } } 0x08
    [(0x0400, [0x00, 0x77]), (0xFFFE, [0x00, 0xF0])]

theorem test_brk :
    ramReads (next brkMachine) 0x01FD 3 = [0x39, 0x02, 0x04] ∧
      (next brkMachine).regs = { r0 with s := 0xFC, pc := 0xF000, p := { p0 with i := true, c := true } } ∧
      requests 12 brkMachine = 7 := by decide

theorem test_rti :
    (ran { r0 with s := 0xFC, p := { p0 with i := true } } [0x40] [(0x01FD, [0x20, 0x34, 0x12])]).regs =
      { r0 with pc := 0x1234 } := by decide

/-! ## Flags and no-operations (vectors V120 to V129) -/

theorem test_flag_instructions :
    (ran { r0 with p := { p0 with c := true } } [0x18] []).regs.p = p0 ∧
      (ran r0 [0x38] []).regs.p = { p0 with c := true } ∧
      (ran { r0 with p := { p0 with i := true } } [0x58] []).regs.p = p0 ∧
      (ran r0 [0x78] []).regs.p = { p0 with i := true } ∧
      (ran { r0 with p := { p0 with d := true } } [0xD8] []).regs.p = p0 ∧
      (ran r0 [0xF8] []).regs.p = { p0 with d := true } ∧
      (ran { r0 with p := { p0 with v := true } } [0xB8] []).regs.p = p0 := by decide

theorem test_nops :
    (ran r0 [0xEA] []).regs = { r0 with pc := 0x0201 } ∧ (ran r0 [0x02, 0xFF] []).regs = { r0 with pc := 0x0202 } ∧
      (ran r0 [0x54, 0x20] []).regs = { r0 with pc := 0x0202 } ∧ (ran r0 [0x03] []).regs = { r0 with pc := 0x0201 } ∧
      (ran r0 [0xDC, 0x00, 0x30] []).regs = { r0 with pc := 0x0203 } := by decide

theorem test_nop_requests :
    counted r0 [0xEA] [] = 2 ∧ counted r0 [0x02, 0xFF] [] = 2 ∧ counted r0 [0x44, 0x20] [] = 3 ∧
      counted r0 [0x54, 0x20] [] = 4 ∧ counted r0 [0x03] [] = 1 ∧ counted r0 [0xCB] [] = 1 ∧
      counted r0 [0xDC, 0x00, 0x30] [] = 4 := by decide

/-- V129: with the spec's default address, the five reads of `5C 34 12` are of FF34. -/
theorem test_nop_5c :
    seqNopAbs5C (fun _ ll => 0xFF00#16 ||| ll.zeroExtend 16) 0x1234 =
      [.discard (.fixed 0xFF34), .discard (.fixed 0xFF34), .discard (.fixed 0xFF34), .discard (.fixed 0xFF34),
        .discard (.fixed 0xFF34)] := by decide

/-! ## Interrupts and reset (vectors V140 to V149; S6, S9) -/

/-- A machine at a fetch boundary at 0300 with NOP there, the RAM vectors, and an interrupt mask. -/
def asked (p : Flags) (m : IrqMask) : State :=
  { machine { r0 with pc := 0x0300, p := p, s := 0x80 } 0x08
      [(0x0300, [0xEA]), (0xFFFA, [0x00, 0xA0, 0x00, 0xB0, 0x00, 0xC0])] with
    irqMask := m }

/-- No request of the interrupt mask. -/
def noIrq : IrqMask := { reset := false, nmi := false, irq := false }

theorem test_irq_masked :
    (next (asked { p0 with i := true } { noIrq with irq := true })).regs =
      { r0 with pc := 0x0301, s := 0x80, p := { p0 with i := true } } := by decide

theorem test_irq_entry :
    (next (asked p0 { noIrq with irq := true })).regs =
        { r0 with pc := 0xC000, s := 0x7D, p := { p0 with i := true } } ∧
      ramReads (next (asked p0 { noIrq with irq := true })) 0x017E 3 = [0x20, 0x00, 0x03] := by decide

theorem test_nmi_first :
    (next (asked p0 { noIrq with nmi := true, irq := true })).regs.pc = 0xA000 ∧
      (next (asked p0 { noIrq with nmi := true, irq := true })).irqMask = { noIrq with irq := true } := by decide

theorem test_reset_taken :
    (next (asked { p0 with d := true } { noIrq with reset := true })).regs =
        { r0 with pc := 0xB000, s := 0x80, p := { p0 with i := true } } ∧
      requests 12 (asked p0 { noIrq with reset := true }) = 3 := by decide

/-- S6: a boot ROM with reset vector FE00. -/
def booting : State := { State.reset with rom := List.replicate 508 0 ++ [0x00, 0xFE, 0x00, 0x00] }

/-- S6: the first three requests. -/
theorem test_power_on :
    (next booting).req = some { kind := .fetchOpcode, addr := 0xFE00, value := 0 } ∧
      (next booting).regs.p = { p0 with i := true } ∧ requests 12 booting = 2 := by decide +kernel

theorem test_intrst_write : (chipBWrite 0x80 0x08 7 { State.reset with intPending := 0x08 }).intPending = 0 := by
  decide

theorem test_irq_wakes :
    (handle { tick := 0, kind := .irqUpdate } { State.reset with intPending := 1, cpuRun := .sleep }).cpuRun = .run := by
  decide

theorem test_cpusleep :
    (chipBWrite 0x91 0 0 { State.reset with intPending := 1 }).cpuRun = .run ∧
      (chipBWrite 0x91 0 0 State.reset).cpuRun = .sleep := by decide

/-! ## Scheduler, decode and registers (S1, S3; vectors V1 to V22) -/

/-- S1. -/
theorem test_queue_order :
    insertAction { tick := 5, kind := .endFrame }
        (insertAction { tick := 10, kind := .dma } (insertAction { tick := 10, kind := .timer 1 } [])) =
      [{ tick := 5, kind := .endFrame }, { tick := 10, kind := .dma }, { tick := 10, kind := .timer 1 }] := by
  decide

/-- V3: an idle jump, and then the action. -/
theorem test_idle_jump :
    (next { State.reset with cpuRun := .sleep, now := 200, queue := [{ tick := 5000, kind := .timer 0 }] }).now = 5000 := by
  decide

/-- V6. -/
theorem test_stuck : step { State.reset with cpuRun := .sleep } = .fault .stuck := rfl

/-- V7. -/
theorem test_past_schedule : push 10 9 .dma State.reset = .fault .pastSchedule := rfl

/-- V10 to V14, V17. -/
theorem test_regions :
    regionOf 0xFE00 0x00 = .rom 0 ∧ regionOf 0xFE00 0x04 = .ram ∧ regionOf 0xFFF8 0x00 = .ram ∧
      regionOf 0xFFF9 0x00 = .mapctl ∧ regionOf 0xFFFC 0x08 = .ram ∧ regionOf 0xFFF7 0x08 = .rom 0x1F7 ∧
      regionOf 0xFD80 0x02 = .ram ∧ regionOf 0xFC00 0x02 = .chipA 0 := by decide

/-- V15, V16. -/
theorem test_rom_overlay :
    byteAt (busWrite 0xFFFD 0x77 booting) 0xFFFD = 0xFE ∧
      byteAt { busWrite 0xFFFD 0x77 booting with mapctl := 0x08 } 0xFFFD = 0x77 := by decide +kernel

/-- V18, V19. -/
theorem test_open_bus : (chipBRead 0x70 0 State.reset).1 = 0xFF ∧ (chipBRead 0x92 0 State.reset).1 = 0xFF := by
  decide

/-- S3. -/
theorem test_round_trips :
    (chipBRead 0xA3 1 (chipBWrite 0xA3 0xA5 0 State.reset)).1 = 0xA5 ∧
      (chipBRead 0xB3 1 (chipBWrite 0xB3 0x5A 0 State.reset)).1 = 0x5A ∧
      (chipBRead 0x00 1 (chipBWrite 0x00 0x7F 0 State.reset)).1 = 0x7F ∧
      (chipBRead 0x80 1 (chipBWrite 0x81 0x05 0 State.reset)).1 = 0x05 ∧
      (chipBRead 0x80 1 (chipBWrite 0x80 0x01 0 (chipBWrite 0x81 0x05 0 State.reset))).1 = 0x04 ∧
      (chipBRead 0x01 1 (chipBWrite 0x01 0x5F 0 State.reset)).1 = 0x1F := by decide

/-- The chip A words of the same kind (10_state.md R42). -/
theorem test_chip_a_words :
    (chipARead 0x11 (chipAWrite 0x11 0x12 (chipAWrite 0x10 0x34 State.reset))).1 = 0x12 ∧
      (chipAWrite 0x11 0x12 (chipAWrite 0x10 0x34 State.reset)).chipA.scbnext = 0x1234 := by decide

/-! ## Timers (S2; vectors V160 to V171) -/

/-- Timer `n` with its backup written, which loads its count, and then its control A. -/
def started (n : Fin 12) (backup ctla : Byte) (t u : Nat) (s : State) : State :=
  ctlaWrite n ctla u (backupWrite true n backup t s)

/-- Timer 0 with its backup and control A written at 1000 (V160). -/
def timing : State := started 0 0x09 0x18 1000 1000 State.reset

theorem test_timer_fires :
    (timer timing 0).predicted = some 1160 ∧ (timer (timerEvent 0 1160 timing) 0).predicted = some 1320 ∧
      (timer (timerEvent 0 1160 timing) 0).count = 9 := by decide

/-- V161, V162, V163. -/
theorem test_timer_counts :
    (timer (started 0 0x01 0x1B 2000 2000 State.reset) 0).predicted = some 2256 ∧
      (chipBRead 0x02 1050 timing).1 = 6 ∧ (timer (chipBWrite 0x01 0x18 1050 timing) 0).predicted = some 1162 ∧
      (timer (timerEvent 0 1160 (chipBWrite 0x01 0x18 1050 timing)) 0).predicted = some 1162 := by decide

/-- S2: without reload. -/
theorem test_timer_one_shot :
    let s := started 1 0x09 0x08 1000 1005 State.reset
    (timer s 1).predicted = some 1165 ∧ (timer (timerEvent 1 1165 s) 1).done = true ∧
      (timer (timerEvent 1 1165 s) 1).count = 0 ∧ (timer (timerEvent 1 1165 s) 1).predicted = none := by decide

/-- V164, V170. -/
theorem test_timer_unscheduled :
    (timer (started 1 0x00 0x18 0 0 State.reset) 1).predicted = none ∧
      (timer (started 1 0x05 0x1F 0 0 State.reset) 1).predicted = none := by decide

/-- V165: timer 2, linked, with backup 2, fires at the third fire of timer 0. -/
theorem test_linked_timer :
    let s := started 2 0x02 0x1F 1000 1000 timing
    let s₂ := timerEvent 0 1320 (timerEvent 0 1160 s)
    (timer s₂ 2).done = false ∧ (timer s₂ 2).count = 0 ∧ (timer (timerEvent 0 1480 s₂) 2).lastFire = some 1480 ∧
      (timer (timerEvent 0 1480 s₂) 2).count = 2 := by decide

/-- V167, V168. -/
theorem test_timer_rearmed :
    let s := timerEvent 0 1160 (started 0 0x09 0x08 1000 1000 State.reset)
    (timer (chipBWrite 0x03 0x00 5000 s) 0).predicted = some 5016 ∧
      (timer (chipBWrite 0x01 0x48 5000 s) 0).predicted = some 5016 := by decide

/-- A reloading timer that has fired and counts on is done-latched and counting down (10_state.md R36). -/
theorem test_timer_states :
    let T := timer (timerEvent 0 1160 timing) 0
    T.doneLatched = true ∧ T.countingDown = true ∧ T.idle = false ∧ (timer State.reset 0).idle = true := by decide

/-- V171. -/
theorem test_backup_without_load :
    let s := setTimer 0 { timer State.reset 0 with count := 3 } State.reset
    (timer (ctlaWrite 0 0x18 1000 (backupWrite false 0 0x09 1000 s)) 0).predicted = some 1064 := by decide

/-- V145. -/
theorem test_timer_interrupt :
    (timerEvent 3 160 (started 3 0x09 0x98 0 0 State.reset)).intPending = 0x08 := by decide

/-! ## Display and sprites (vectors V180 to V212; S4) -/

/-- V180, V188: row 0 latches the DMA address, and row 102 is not visible. -/
theorem test_hblank :
    let s := { State.reset with display := { Display.reset with dispctl := 0x0D, dispadr := 0x2003 } }
    (hblank 5 0 s).display.row = some 0 ∧ (hblank 5 0 s).display.dmaAddr = 0x2000 ∧
      (hblank 5 102 s).display.row = none := by decide

/-- R513: an hblank at the very tick at which the tenth burst was due breaks the frame, and one tick later it
does not. -/
theorem test_late_hblank :
    let last := 7 + (Config.dmaFirstOffset + 9 * Config.dmaBurstInterval)
    let s := { State.reset with display := { Display.reset with row := some 0, burst := 10, lineTick := 7 } }
    (checkBursts last s).display.broken = true ∧ (checkBursts (last + 1) s).display.broken = false := by
  simp [checkBursts, breakFrame, dmaFits, State.reset, Display.reset]; omega

/-- R521, R522: GREEN3 and BLUERED3 make colour 3 from the tick of the write on. -/
theorem test_colour :
    let s := chipBWrite 0xB3 0x5A 9 (chipBWrite 0xA3 0xA7 5 State.reset)
    colourAt s.palette 9 3 = 0x75A ∧ colourAt s.palette 8 3 = 0x700 ∧ colourAt s.palette 4 3 = 0 := by decide

/-- R106: the accumulator starts at 0, and a call with rate 0 runs nothing. -/
theorem test_get_sample : sampleCarryStart = 0 ∧ getSample 9 0 0 State.reset = .zeroRate := by decide

/-- V183. -/
theorem test_left_pixel :
    pixelValue { Display.reset with lineBytes := Vector.replicate 80 0x3C } 0 = 3 ∧
      pixelValue { Display.reset with lineBytes := Vector.replicate 80 0x3C } 1 = 0xC := by decide

/-- V205, V206. -/
theorem test_packed_records :
    packedPens 4 9 [false, false, false, true, true, false, true, false, true] = [5, 5, 5] ∧
      packedPens 4 13 [true, false, false, false, true, false, false, true, false, false, false, true, true] =
        [2, 3] := by decide

/-- V207, V208: two pixels of one byte make one full mask. -/
theorem test_coalescing :
    let b := Coalesce.empty.add 0x2195 (nibMask { x := 10, y := 5, c := 1 }) 0x11
    b.mask = 0xF0 ∧ (b.add 0x2195 (nibMask { x := 11, y := 5, c := 2 }) 0x22).mask = 0xFF ∧
      (b.add 0x2195 (nibMask { x := 11, y := 5, c := 2 }) 0x22).data = 0x12 ∧
      videoFlushKind 4 0xF0 = .videoRmw ∧ videoFlushKind 4 0xFF = .writeByte := by decide

/-- V209. -/
theorem test_xor_write : rmwByte .xorRmw 0x3C 0xF0 0x55 = 0x6C := by decide

/-- V211. -/
theorem test_depository :
    depoByte { State.reset with
      spr := { Sprite.reset with depo := 4, everon := true }
      chipA := { ChipA.reset with sprgo := 5 } } = 0x84 := by decide

/-! ## Every opcode of the map, from words written out by the rule (30_encoding.md R160, R167) -/

/-- R167, row 0x. -/
theorem test_decode_0x :
    decodeTableWord 16 0x3400 = some (.brk 0x34) ∧ decodeTableWord 16 0x3401 = some (.oraIzx 0x34) ∧
    decodeTableWord 16 0x3402 = some (.nopImm02 0x34) ∧ decodeTableWord 8 0x03 = some .nopHic03 ∧
    decodeTableWord 16 0x3404 = some (.tsbZp 0x34) ∧ decodeTableWord 16 0x3405 = some (.oraZp 0x34) ∧
    decodeTableWord 16 0x3406 = some (.aslZp 0x34) ∧ decodeTableWord 8 0x07 = some .nopHic07 ∧
    decodeTableWord 8 0x08 = some .php ∧ decodeTableWord 16 0x3409 = some (.oraImm 0x34) ∧
    decodeTableWord 8 0x0A = some .aslAcc ∧ decodeTableWord 8 0x0B = some .nopHic0B ∧
    decodeTableWord 24 0x12340C = some (.tsbAbs 0x1234) ∧
    decodeTableWord 24 0x12340D = some (.oraAbs 0x1234) ∧
    decodeTableWord 24 0x12340E = some (.aslAbs 0x1234) ∧ decodeTableWord 8 0x0F = some .nopHic0F := by decide

/-- R167, row 1x. -/
theorem test_decode_1x :
    decodeTableWord 16 0x3410 = some (.bpl 0x34) ∧ decodeTableWord 16 0x3411 = some (.oraIzy 0x34) ∧
    decodeTableWord 16 0x3412 = some (.oraIzp 0x34) ∧ decodeTableWord 8 0x13 = some .nopHic13 ∧
    decodeTableWord 16 0x3414 = some (.trbZp 0x34) ∧ decodeTableWord 16 0x3415 = some (.oraZpx 0x34) ∧
    decodeTableWord 16 0x3416 = some (.aslZpx 0x34) ∧ decodeTableWord 8 0x17 = some .nopHic17 ∧
    decodeTableWord 8 0x18 = some .clc ∧ decodeTableWord 24 0x123419 = some (.oraAby 0x1234) ∧
    decodeTableWord 8 0x1A = some .incAcc ∧ decodeTableWord 8 0x1B = some .nopHic1B ∧
    decodeTableWord 24 0x12341C = some (.trbAbs 0x1234) ∧
    decodeTableWord 24 0x12341D = some (.oraAbx 0x1234) ∧
    decodeTableWord 24 0x12341E = some (.aslAbx 0x1234) ∧ decodeTableWord 8 0x1F = some .nopHic1F := by decide

/-- R167, row 2x. -/
theorem test_decode_2x :
    decodeTableWord 24 0x123420 = some (.jsr 0x1234) ∧ decodeTableWord 16 0x3421 = some (.andIzx 0x34) ∧
    decodeTableWord 16 0x3422 = some (.nopImm22 0x34) ∧ decodeTableWord 8 0x23 = some .nopHic23 ∧
    decodeTableWord 16 0x3424 = some (.bitZp 0x34) ∧ decodeTableWord 16 0x3425 = some (.andZp 0x34) ∧
    decodeTableWord 16 0x3426 = some (.rolZp 0x34) ∧ decodeTableWord 8 0x27 = some .nopHic27 ∧
    decodeTableWord 8 0x28 = some .plp ∧ decodeTableWord 16 0x3429 = some (.andImm 0x34) ∧
    decodeTableWord 8 0x2A = some .rolAcc ∧ decodeTableWord 8 0x2B = some .nopHic2B ∧
    decodeTableWord 24 0x12342C = some (.bitAbs 0x1234) ∧
    decodeTableWord 24 0x12342D = some (.andAbs 0x1234) ∧
    decodeTableWord 24 0x12342E = some (.rolAbs 0x1234) ∧ decodeTableWord 8 0x2F = some .nopHic2F := by decide

/-- R167, row 3x. -/
theorem test_decode_3x :
    decodeTableWord 16 0x3430 = some (.bmi 0x34) ∧ decodeTableWord 16 0x3431 = some (.andIzy 0x34) ∧
    decodeTableWord 16 0x3432 = some (.andIzp 0x34) ∧ decodeTableWord 8 0x33 = some .nopHic33 ∧
    decodeTableWord 16 0x3434 = some (.bitZpx 0x34) ∧ decodeTableWord 16 0x3435 = some (.andZpx 0x34) ∧
    decodeTableWord 16 0x3436 = some (.rolZpx 0x34) ∧ decodeTableWord 8 0x37 = some .nopHic37 ∧
    decodeTableWord 8 0x38 = some .sec ∧ decodeTableWord 24 0x123439 = some (.andAby 0x1234) ∧
    decodeTableWord 8 0x3A = some .decAcc ∧ decodeTableWord 8 0x3B = some .nopHic3B ∧
    decodeTableWord 24 0x12343C = some (.bitAbx 0x1234) ∧
    decodeTableWord 24 0x12343D = some (.andAbx 0x1234) ∧
    decodeTableWord 24 0x12343E = some (.rolAbx 0x1234) ∧ decodeTableWord 8 0x3F = some .nopHic3F := by decide

/-- R167, row 4x. -/
theorem test_decode_4x :
    decodeTableWord 8 0x40 = some .rti ∧ decodeTableWord 16 0x3441 = some (.eorIzx 0x34) ∧
    decodeTableWord 16 0x3442 = some (.nopImm42 0x34) ∧ decodeTableWord 8 0x43 = some .nopHic43 ∧
    decodeTableWord 16 0x3444 = some (.nopZp44 0x34) ∧ decodeTableWord 16 0x3445 = some (.eorZp 0x34) ∧
    decodeTableWord 16 0x3446 = some (.lsrZp 0x34) ∧ decodeTableWord 8 0x47 = some .nopHic47 ∧
    decodeTableWord 8 0x48 = some .pha ∧ decodeTableWord 16 0x3449 = some (.eorImm 0x34) ∧
    decodeTableWord 8 0x4A = some .lsrAcc ∧ decodeTableWord 8 0x4B = some .nopHic4B ∧
    decodeTableWord 24 0x12344C = some (.jmpAbs 0x1234) ∧
    decodeTableWord 24 0x12344D = some (.eorAbs 0x1234) ∧
    decodeTableWord 24 0x12344E = some (.lsrAbs 0x1234) ∧ decodeTableWord 8 0x4F = some .nopHic4F := by decide

/-- R167, row 5x. -/
theorem test_decode_5x :
    decodeTableWord 16 0x3450 = some (.bvc 0x34) ∧ decodeTableWord 16 0x3451 = some (.eorIzy 0x34) ∧
    decodeTableWord 16 0x3452 = some (.eorIzp 0x34) ∧ decodeTableWord 8 0x53 = some .nopHic53 ∧
    decodeTableWord 16 0x3454 = some (.nopZpx54 0x34) ∧ decodeTableWord 16 0x3455 = some (.eorZpx 0x34) ∧
    decodeTableWord 16 0x3456 = some (.lsrZpx 0x34) ∧ decodeTableWord 8 0x57 = some .nopHic57 ∧
    decodeTableWord 8 0x58 = some .cli ∧ decodeTableWord 24 0x123459 = some (.eorAby 0x1234) ∧
    decodeTableWord 8 0x5A = some .phy ∧ decodeTableWord 8 0x5B = some .nopHic5B ∧
    decodeTableWord 24 0x12345C = some (.nopAbs5C 0x1234) ∧
    decodeTableWord 24 0x12345D = some (.eorAbx 0x1234) ∧
    decodeTableWord 24 0x12345E = some (.lsrAbx 0x1234) ∧ decodeTableWord 8 0x5F = some .nopHic5F := by decide

/-- R167, row 6x. -/
theorem test_decode_6x :
    decodeTableWord 8 0x60 = some .rts ∧ decodeTableWord 16 0x3461 = some (.adcIzx 0x34) ∧
    decodeTableWord 16 0x3462 = some (.nopImm62 0x34) ∧ decodeTableWord 8 0x63 = some .nopHic63 ∧
    decodeTableWord 16 0x3464 = some (.stzZp 0x34) ∧ decodeTableWord 16 0x3465 = some (.adcZp 0x34) ∧
    decodeTableWord 16 0x3466 = some (.rorZp 0x34) ∧ decodeTableWord 8 0x67 = some .nopHic67 ∧
    decodeTableWord 8 0x68 = some .pla ∧ decodeTableWord 16 0x3469 = some (.adcImm 0x34) ∧
    decodeTableWord 8 0x6A = some .rorAcc ∧ decodeTableWord 8 0x6B = some .nopHic6B ∧
    decodeTableWord 24 0x12346C = some (.jmpInd 0x1234) ∧
    decodeTableWord 24 0x12346D = some (.adcAbs 0x1234) ∧
    decodeTableWord 24 0x12346E = some (.rorAbs 0x1234) ∧ decodeTableWord 8 0x6F = some .nopHic6F := by decide

/-- R167, row 7x. -/
theorem test_decode_7x :
    decodeTableWord 16 0x3470 = some (.bvs 0x34) ∧ decodeTableWord 16 0x3471 = some (.adcIzy 0x34) ∧
    decodeTableWord 16 0x3472 = some (.adcIzp 0x34) ∧ decodeTableWord 8 0x73 = some .nopHic73 ∧
    decodeTableWord 16 0x3474 = some (.stzZpx 0x34) ∧ decodeTableWord 16 0x3475 = some (.adcZpx 0x34) ∧
    decodeTableWord 16 0x3476 = some (.rorZpx 0x34) ∧ decodeTableWord 8 0x77 = some .nopHic77 ∧
    decodeTableWord 8 0x78 = some .sei ∧ decodeTableWord 24 0x123479 = some (.adcAby 0x1234) ∧
    decodeTableWord 8 0x7A = some .ply ∧ decodeTableWord 8 0x7B = some .nopHic7B ∧
    decodeTableWord 24 0x12347C = some (.jmpIax 0x1234) ∧
    decodeTableWord 24 0x12347D = some (.adcAbx 0x1234) ∧
    decodeTableWord 24 0x12347E = some (.rorAbx 0x1234) ∧ decodeTableWord 8 0x7F = some .nopHic7F := by decide

/-- R167, row 8x. -/
theorem test_decode_8x :
    decodeTableWord 16 0x3480 = some (.bra 0x34) ∧ decodeTableWord 16 0x3481 = some (.staIzx 0x34) ∧
    decodeTableWord 16 0x3482 = some (.nopImm82 0x34) ∧ decodeTableWord 8 0x83 = some .nopHic83 ∧
    decodeTableWord 16 0x3484 = some (.styZp 0x34) ∧ decodeTableWord 16 0x3485 = some (.staZp 0x34) ∧
    decodeTableWord 16 0x3486 = some (.stxZp 0x34) ∧ decodeTableWord 8 0x87 = some .nopHic87 ∧
    decodeTableWord 8 0x88 = some .dey ∧ decodeTableWord 16 0x3489 = some (.bitImm 0x34) ∧
    decodeTableWord 8 0x8A = some .txa ∧ decodeTableWord 8 0x8B = some .nopHic8B ∧
    decodeTableWord 24 0x12348C = some (.styAbs 0x1234) ∧
    decodeTableWord 24 0x12348D = some (.staAbs 0x1234) ∧
    decodeTableWord 24 0x12348E = some (.stxAbs 0x1234) ∧ decodeTableWord 8 0x8F = some .nopHic8F := by decide

/-- R167, row 9x. -/
theorem test_decode_9x :
    decodeTableWord 16 0x3490 = some (.bcc 0x34) ∧ decodeTableWord 16 0x3491 = some (.staIzy 0x34) ∧
    decodeTableWord 16 0x3492 = some (.staIzp 0x34) ∧ decodeTableWord 8 0x93 = some .nopHic93 ∧
    decodeTableWord 16 0x3494 = some (.styZpx 0x34) ∧ decodeTableWord 16 0x3495 = some (.staZpx 0x34) ∧
    decodeTableWord 16 0x3496 = some (.stxZpy 0x34) ∧ decodeTableWord 8 0x97 = some .nopHic97 ∧
    decodeTableWord 8 0x98 = some .tya ∧ decodeTableWord 24 0x123499 = some (.staAby 0x1234) ∧
    decodeTableWord 8 0x9A = some .txs ∧ decodeTableWord 8 0x9B = some .nopHic9B ∧
    decodeTableWord 24 0x12349C = some (.stzAbs 0x1234) ∧
    decodeTableWord 24 0x12349D = some (.staAbx 0x1234) ∧
    decodeTableWord 24 0x12349E = some (.stzAbx 0x1234) ∧ decodeTableWord 8 0x9F = some .nopHic9F := by decide

/-- R167, row Ax. -/
theorem test_decode_ax :
    decodeTableWord 16 0x34A0 = some (.ldyImm 0x34) ∧ decodeTableWord 16 0x34A1 = some (.ldaIzx 0x34) ∧
    decodeTableWord 16 0x34A2 = some (.ldxImm 0x34) ∧ decodeTableWord 8 0xA3 = some .nopHicA3 ∧
    decodeTableWord 16 0x34A4 = some (.ldyZp 0x34) ∧ decodeTableWord 16 0x34A5 = some (.ldaZp 0x34) ∧
    decodeTableWord 16 0x34A6 = some (.ldxZp 0x34) ∧ decodeTableWord 8 0xA7 = some .nopHicA7 ∧
    decodeTableWord 8 0xA8 = some .tay ∧ decodeTableWord 16 0x34A9 = some (.ldaImm 0x34) ∧
    decodeTableWord 8 0xAA = some .tax ∧ decodeTableWord 8 0xAB = some .nopHicAB ∧
    decodeTableWord 24 0x1234AC = some (.ldyAbs 0x1234) ∧
    decodeTableWord 24 0x1234AD = some (.ldaAbs 0x1234) ∧
    decodeTableWord 24 0x1234AE = some (.ldxAbs 0x1234) ∧ decodeTableWord 8 0xAF = some .nopHicAF := by decide

/-- R167, row Bx. -/
theorem test_decode_bx :
    decodeTableWord 16 0x34B0 = some (.bcs 0x34) ∧ decodeTableWord 16 0x34B1 = some (.ldaIzy 0x34) ∧
    decodeTableWord 16 0x34B2 = some (.ldaIzp 0x34) ∧ decodeTableWord 8 0xB3 = some .nopHicB3 ∧
    decodeTableWord 16 0x34B4 = some (.ldyZpx 0x34) ∧ decodeTableWord 16 0x34B5 = some (.ldaZpx 0x34) ∧
    decodeTableWord 16 0x34B6 = some (.ldxZpy 0x34) ∧ decodeTableWord 8 0xB7 = some .nopHicB7 ∧
    decodeTableWord 8 0xB8 = some .clv ∧ decodeTableWord 24 0x1234B9 = some (.ldaAby 0x1234) ∧
    decodeTableWord 8 0xBA = some .tsx ∧ decodeTableWord 8 0xBB = some .nopHicBB ∧
    decodeTableWord 24 0x1234BC = some (.ldyAbx 0x1234) ∧
    decodeTableWord 24 0x1234BD = some (.ldaAbx 0x1234) ∧
    decodeTableWord 24 0x1234BE = some (.ldxAby 0x1234) ∧ decodeTableWord 8 0xBF = some .nopHicBF := by decide

/-- R167, row Cx. -/
theorem test_decode_cx :
    decodeTableWord 16 0x34C0 = some (.cpyImm 0x34) ∧ decodeTableWord 16 0x34C1 = some (.cmpIzx 0x34) ∧
    decodeTableWord 16 0x34C2 = some (.nopImmC2 0x34) ∧ decodeTableWord 8 0xC3 = some .nopHicC3 ∧
    decodeTableWord 16 0x34C4 = some (.cpyZp 0x34) ∧ decodeTableWord 16 0x34C5 = some (.cmpZp 0x34) ∧
    decodeTableWord 16 0x34C6 = some (.decZp 0x34) ∧ decodeTableWord 8 0xC7 = some .nopHicC7 ∧
    decodeTableWord 8 0xC8 = some .iny ∧ decodeTableWord 16 0x34C9 = some (.cmpImm 0x34) ∧
    decodeTableWord 8 0xCA = some .dex ∧ decodeTableWord 8 0xCB = some .nopHicCB ∧
    decodeTableWord 24 0x1234CC = some (.cpyAbs 0x1234) ∧
    decodeTableWord 24 0x1234CD = some (.cmpAbs 0x1234) ∧
    decodeTableWord 24 0x1234CE = some (.decAbs 0x1234) ∧ decodeTableWord 8 0xCF = some .nopHicCF := by decide

/-- R167, row Dx. -/
theorem test_decode_dx :
    decodeTableWord 16 0x34D0 = some (.bne 0x34) ∧ decodeTableWord 16 0x34D1 = some (.cmpIzy 0x34) ∧
    decodeTableWord 16 0x34D2 = some (.cmpIzp 0x34) ∧ decodeTableWord 8 0xD3 = some .nopHicD3 ∧
    decodeTableWord 16 0x34D4 = some (.nopZpxD4 0x34) ∧ decodeTableWord 16 0x34D5 = some (.cmpZpx 0x34) ∧
    decodeTableWord 16 0x34D6 = some (.decZpx 0x34) ∧ decodeTableWord 8 0xD7 = some .nopHicD7 ∧
    decodeTableWord 8 0xD8 = some .cld ∧ decodeTableWord 24 0x1234D9 = some (.cmpAby 0x1234) ∧
    decodeTableWord 8 0xDA = some .phx ∧ decodeTableWord 8 0xDB = some .nopHicDB ∧
    decodeTableWord 24 0x1234DC = some (.nopAbsDC 0x1234) ∧
    decodeTableWord 24 0x1234DD = some (.cmpAbx 0x1234) ∧
    decodeTableWord 24 0x1234DE = some (.decAbx 0x1234) ∧ decodeTableWord 8 0xDF = some .nopHicDF := by decide

/-- R167, row Ex. -/
theorem test_decode_ex :
    decodeTableWord 16 0x34E0 = some (.cpxImm 0x34) ∧ decodeTableWord 16 0x34E1 = some (.sbcIzx 0x34) ∧
    decodeTableWord 16 0x34E2 = some (.nopImmE2 0x34) ∧ decodeTableWord 8 0xE3 = some .nopHicE3 ∧
    decodeTableWord 16 0x34E4 = some (.cpxZp 0x34) ∧ decodeTableWord 16 0x34E5 = some (.sbcZp 0x34) ∧
    decodeTableWord 16 0x34E6 = some (.incZp 0x34) ∧ decodeTableWord 8 0xE7 = some .nopHicE7 ∧
    decodeTableWord 8 0xE8 = some .inx ∧ decodeTableWord 16 0x34E9 = some (.sbcImm 0x34) ∧
    decodeTableWord 8 0xEA = some .nop ∧ decodeTableWord 8 0xEB = some .nopHicEB ∧
    decodeTableWord 24 0x1234EC = some (.cpxAbs 0x1234) ∧
    decodeTableWord 24 0x1234ED = some (.sbcAbs 0x1234) ∧
    decodeTableWord 24 0x1234EE = some (.incAbs 0x1234) ∧ decodeTableWord 8 0xEF = some .nopHicEF := by decide

/-- R167, row Fx. -/
theorem test_decode_fx :
    decodeTableWord 16 0x34F0 = some (.beq 0x34) ∧ decodeTableWord 16 0x34F1 = some (.sbcIzy 0x34) ∧
    decodeTableWord 16 0x34F2 = some (.sbcIzp 0x34) ∧ decodeTableWord 8 0xF3 = some .nopHicF3 ∧
    decodeTableWord 16 0x34F4 = some (.nopZpxF4 0x34) ∧ decodeTableWord 16 0x34F5 = some (.sbcZpx 0x34) ∧
    decodeTableWord 16 0x34F6 = some (.incZpx 0x34) ∧ decodeTableWord 8 0xF7 = some .nopHicF7 ∧
    decodeTableWord 8 0xF8 = some .sed ∧ decodeTableWord 24 0x1234F9 = some (.sbcAby 0x1234) ∧
    decodeTableWord 8 0xFA = some .plx ∧ decodeTableWord 8 0xFB = some .nopHicFB ∧
    decodeTableWord 24 0x1234FC = some (.nopAbsFC 0x1234) ∧
    decodeTableWord 24 0x1234FD = some (.sbcAbx 0x1234) ∧
    decodeTableWord 24 0x1234FE = some (.incAbx 0x1234) ∧ decodeTableWord 8 0xFF = some .nopHicFF := by decide

/-! ## Witnesses: a state and operands that meet the hypotheses of each statement -/

/-- X = Y = 1, and pointers at 0010 and 0011. -/
def w : State := machine { r0 with x := 1, y := 1 } 0 [(0x0010, [0xFE, 0xFB, 0x20])]

/-- `w` with an action due just after the time of eight slow requests. -/
def wq : State := { w with queue := [{ tick := 0 + 8 * Config.slowCost + 1, kind := .dma }] }

/-- A machine with an empty queue is quiet. -/
theorem quiet_w (n : Nat) : Quiet n w := ⟨rfl, rfl, fun _ h => absurd h List.not_mem_nil⟩

theorem ready_w : Ready w := ⟨quiet_w 8, by decide, by decide, by decide⟩

/-- A state of which Ready's bound on the queue is met with nothing to spare. -/
theorem ready_wq : Ready wq := by
  refine ⟨⟨rfl, rfl, fun e h => ?_⟩, by decide, by decide, by decide⟩
  obtain rfl : e = { tick := 0 + 8 * Config.slowCost + 1, kind := .dma } := by simpa [wq] using h
  exact Nat.lt_succ_self _

/-- The nine forms' effective addresses for operands 10 and FBFE: each reaches no chip, and FBFF is the last
address below the chip pages. -/
theorem nine_w :
    onChip w (pointerAt w (0x10 + w.regs.x)) = false ∧ onChip w (pointerAt w 0x10 + zext w.regs.y) = false ∧
      onChip w (pointerAt w 0x10) = false ∧ onChip w 0xFBFE = false ∧ onChip w (0xFBFE + zext w.regs.x) = false ∧
      onChip w (0xFBFE + zext w.regs.y) = false ∧ pointerAt w 0x10 + zext w.regs.y = 0xFBFF := by decide

/-- The first and the last address above the chip pages, MAPCTL, and a sum that wraps. -/
theorem above_w :
    onChip w 0xFE00 = false ∧ onChip w 0xFFF9 = false ∧ onChip w 0xFFFF = false ∧
      onChip w (0xFFFF + zext w.regs.x) = false ∧ onChip w 0xFC00 = true ∧ onChip w 0xFDFF = true := by decide

theorem witness_LdaCompletes :
    Ready w ∧ onChip w (pointerAt w (0x10 + w.regs.x)) = false ∧
      onChip w (pointerAt w 0x10 + zext w.regs.y) = false ∧ onChip w (pointerAt w 0x10) = false ∧
      onChip w 0xFBFE = false ∧ onChip w (0xFBFE + zext w.regs.x) = false ∧
      onChip w (0xFBFE + zext w.regs.y) = false :=
  ⟨ready_w, nine_w.1, nine_w.2.1, nine_w.2.2.1, nine_w.2.2.2.1, nine_w.2.2.2.2.1, nine_w.2.2.2.2.2.1⟩

theorem witness_LdxLdyComplete :
    Ready wq ∧ onChip wq 0xFBFF = false ∧ onChip wq (0xFBFF + zext 0) = false ∧
      onChip wq (0xFFFF + zext wq.regs.y) = false ∧ onChip wq (0xFFFF + zext wq.regs.x) = false :=
  ⟨ready_wq, by decide, by decide, by decide, by decide⟩

theorem witness_StaCompletes :
    Ready wq ∧ onChip wq 0xFFF9 = false ∧ onChip wq (0xFDFF + zext wq.regs.x) = false ∧
      onChip wq (0xFDFF + zext wq.regs.y) = false ∧ onChip wq (pointerAt wq (0x10 + wq.regs.x)) = false ∧
      onChip wq (pointerAt wq 0x10 + zext wq.regs.y) = false ∧ onChip wq (pointerAt wq 0x10) = false :=
  ⟨ready_wq, by decide, by decide, by decide, by decide, by decide, by decide⟩

theorem witness_StxStyStzComplete :
    Ready w ∧ onChip w 0xFBFF = false ∧ onChip w (0xFFF8 + zext w.regs.x) = false :=
  ⟨ready_w, by decide, by decide⟩

theorem witness_RegisterOpsComplete : Ready wq := ready_wq

/-- S at both ends, where a push or a pull wraps. -/
theorem witness_StackOpsComplete :
    Ready w ∧ Ready { w with regs := { w.regs with s := 0 } } ∧ w.regs.s = 0xFF :=
  ⟨ready_w, ⟨quiet_w 8, by decide, by decide, by decide⟩, rfl⟩

theorem witness_LogicCompletes : Ready wq ∧ onChip wq 0xFBFF = false ∧ onChip wq (pointerAt wq 0x10) = false :=
  ⟨ready_wq, by decide, by decide⟩

/-- Binary and decimal mode. -/
theorem witness_AdcCompletes :
    Ready w ∧ Ready { w with regs := { w.regs with p := { p0 with d := true } } } ∧ onChip w 0xFBFF = false ∧
      onChip w (pointerAt w (0x10 + w.regs.x)) = false :=
  ⟨ready_w, ⟨quiet_w 8, by decide, by decide, by decide⟩, by decide, by decide⟩

theorem witness_SbcCompletes :
    Ready wq ∧ Ready { w with regs := { w.regs with p := { p0 with d := true, c := true } } } ∧
      onChip wq 0xFE00 = false :=
  ⟨ready_wq, ⟨quiet_w 8, by decide, by decide, by decide⟩, by decide⟩

/-- Numbers below 100, at both ends. -/
theorem witness_ArithmeticIsRight : (99 : Nat) < 100 ∧ (0 : Nat) < 100 := ⟨by decide, by decide⟩

theorem witness_ComparesComplete :
    Ready w ∧ onChip w 0xFBFE = false ∧ onChip w (pointerAt w 0x10 + zext w.regs.y) = false :=
  ⟨ready_w, by decide, by decide⟩

theorem witness_BitCompletes :
    Ready w ∧ onChip w 0xFBFE = false ∧ onChip w (0xFBFE + zext w.regs.x) = false :=
  ⟨ready_w, by decide, by decide⟩

/-- Also at MAPCTL, which a read-modify-write may change. -/
theorem witness_ShiftsComplete :
    Ready w ∧ onChip w 0xFFF9 = false ∧ onChip w (0xFFF8 + zext w.regs.x) = false :=
  ⟨ready_w, by decide, by decide⟩

theorem witness_IncDecComplete :
    Ready wq ∧ onChip wq 0xFBFE = false ∧ onChip wq (0xFBFE + zext wq.regs.x) = false :=
  ⟨ready_wq, by decide, by decide⟩

theorem witness_TsbTrbComplete : Ready w ∧ onChip w 0xFE00 = false := ⟨ready_w, by decide⟩

/-- Whatever the parameter of opcode 0x5C is, it reads no chip register while both chips are off the bus. -/
theorem witness_NopsComplete :
    Ready wq ∧ onChip wq 0xFFFF = false ∧ wq.queue ≠ [] ∧ w.queue = [] ∧ turn w = .cpu ∧
      Ready { w with mapctl := 0x03 } ∧
      ∀ a : Addr, onChip { w with mapctl := 0x03 } (Config.nop5cAddr (hiByte a) (loByte a)) = false := by
  refine ⟨ready_wq, by decide, by decide, rfl, by decide,
    ⟨⟨rfl, rfl, fun _ h => absurd h List.not_mem_nil⟩, by decide, by decide, by decide⟩, fun a => ?_⟩
  simp only [onChip]
  split <;> simp_all [regionOf] <;> grind

theorem witness_HiccupsRefetch : Instr.nopHic03 ∈ hiccups ∧ Instr.nopHicFF ∈ hiccups := by decide

/-- A branch taken and one not taken. -/
theorem witness_BranchesComplete :
    Ready w ∧ ∃ b c, b ∈ branches ∧ c ∈ branches ∧ b.2 w.regs.p = true ∧ c.2 w.regs.p = false :=
  ⟨ready_w, (.bpl, fun p => !p.n), (.bmi, fun p => p.n), .head _, .tail _ (.head _), rfl, rfl⟩

theorem witness_JumpsComplete :
    Ready w ∧ onChip w 0xFBFE = false ∧ onChip w (0xFBFE + 1) = false ∧
      onChip w (0xFFFE + zext w.regs.x) = false ∧ onChip w (0xFFFE + zext w.regs.x + 1) = false :=
  ⟨ready_w, by decide, by decide, by decide, by decide⟩

/-- The pulled address is off the chip pages; and JSR's third byte stands on the stack or in the ROM. -/
theorem witness_JsrRtsComplete :
    Ready w ∧ onChip w (pair (stackByte w 2) (stackByte w 1)) = false ∧
      Ready { w with regs := { w.regs with pc := 0x01FE } } ∧ Ready { w with regs := { w.regs with pc := 0xFE01 } } :=
  ⟨ready_w, by decide, ⟨quiet_w 8, by decide, by decide, by decide⟩, ⟨quiet_w 8, by decide, by decide, by decide⟩⟩

theorem witness_BrkRtiComplete : Ready wq ∧ Ready { w with regs := { w.regs with s := 1 } } :=
  ⟨ready_wq, ⟨quiet_w 8, by decide, by decide, by decide⟩⟩

/-- Sequential cost off and both chips off the bus; a page crossed, decimal mode, branches taken. -/
theorem witness_RequestCounts :
    Ready { w with mapctl := 0x83 } ∧ (0x83 : Byte).getLsbD 0 = true ∧ (0x83 : Byte).getLsbD 1 = true ∧
      (0x83 : Byte).getLsbD 7 = true ∧ extraRequests (.ldaAbx 0x20FF) w = 1 ∧ extraRequests (.bpl 0x7F) w = 1 ∧
      extraRequests (.adcAby 0x20FF) { w with regs := { w.regs with p := { p0 with d := true } } } = 2 :=
  ⟨⟨⟨rfl, rfl, fun _ h => absurd h List.not_mem_nil⟩, by decide, by decide, by decide⟩, by decide, by decide,
    by decide, by decide, by decide, by decide⟩

/-- Every clause of AddressDecoding at the ends of its range. -/
theorem witness_AddressDecoding :
    regionOf 0xFFF9 0 = .mapctl ∧ regionOf 0xFFF8 0 = .ram ∧ regionOf 0xFFFA 0 = .rom 0x1FA ∧
      regionOf 0xFFFF 0 = .rom 0x1FF ∧ regionOf 0xFE00 0 = .rom 0 ∧ regionOf 0xFFF7 0 = .rom 0x1F7 ∧
      regionOf 0xFD00 0 = .chipB 0 ∧ regionOf 0xFDFF 0 = .chipB 0xFF ∧ regionOf 0xFC00 0 = .chipA 0 ∧
      regionOf 0xFCFF 0 = .chipA 0xFF ∧ regionOf 0xFBFF 0 = .ram ∧ regionOf 0 0 = .ram := by decide

theorem witness_DecodingIsTotalAndExact :
    decode [0xEA] = .ok (.nop, []) ∧ 1 < opLength 0xA9 ∧ 2 < opLength 0x20 := by decide

/-- Both ends of both ROM windows, and the ROM hidden again. -/
theorem witness_RomOverlay :
    regionOf 0xFE00 w.mapctl = .rom 0 ∧ regionOf 0xFFF7 w.mapctl = .rom 0x1F7 ∧
      regionOf 0xFFFA w.mapctl = .rom 0x1FA ∧ regionOf 0xFFFF w.mapctl = .rom 0x1FF ∧
      Memory.wf 65536 w.ram = true ∧ regionOf 0xFE00 0x04 = .ram ∧ regionOf 0xFFFF 0x08 = .ram := by decide

/-- A request to each region. -/
theorem witness_CostAndPredictor :
    regionOf 0xFC00 w.mapctl = .chipA 0 ∧ regionOf 0xFDFF w.mapctl = .chipB 0xFF ∧
      regionOf 0xFFF9 w.mapctl = .mapctl ∧ (regionOf 0xFBFF w.mapctl).isMemory = true ∧
      (regionOf 0xFE00 w.mapctl).isMemory = true := by decide

theorem witness_ChipStores :
    turn w = .cpu ∧ w.mapctl.getLsbD 1 = false ∧ w.mapctl.getLsbD 0 = false := by decide

theorem witness_ChipLoads :
    turn { w with mapctl := 0x8C } = .cpu ∧ (0x8C : Byte).getLsbD 1 = false ∧ (0x8C : Byte).getLsbD 0 = false := by
  decide

/-- Both ends of both chip pages. -/
theorem witness_ChipModifies :
    w.queue = [] ∧ turn w = .cpu ∧ onChip w 0xFC00 = true ∧ onChip w 0xFCFF = true ∧ onChip w 0xFD00 = true ∧
      onChip w 0xFDFF = true := by decide

/-- The ends of each range of chip B offsets, and the chip B and chip A registers at their offsets. -/
theorem witness_ChipRoundTrip :
    memoryWf w = true ∧ (∀ o ∈ [0x00, 0x1C, 0x20, 0x24, 0x3C, 0x40, 0x44, 0x50, 0xA0, 0xBF], symmetricB o = true) ∧
      (∀ o ∈ [0x45, 0x4F, 0x51, 0x7F, 0x82, 0x8F, 0x96, 0x9F, 0xC0, 0xFF], unassignedB o = true) ∧
      (∀ o ∈ [0x90, 0x95, 0x9C, 0x9E], writeOnlyB o = true) ∧ timerOffset 0 = 0x00 ∧ timerOffset 7 = 0x1C ∧
      timerOffset 8 = 0x24 ∧ timerOffset 11 = 0x3C ∧ chipAWords.length = 13 ∧
      (timer timing 0).predicted ≠ none ∧ (timer State.reset 0).predicted = none := by decide

/-- No chip B offset falls under two of those ranges. -/
theorem witness_ChipRoundTrip_ranges :
    ∀ o : Fin 256,
      (symmetricB o.val && unassignedB o.val || symmetricB o.val && writeOnlyB o.val ||
        unassignedB o.val && writeOnlyB o.val) = false := by decide +kernel

/-- Each case of the arbiter, the event at the tick it falls due. -/
theorem witness_StepPriority :
    turn { w with queue := [{ tick := 0, kind := .dma }] } = .event ∧
      turn { w with queue := [{ tick := 1, kind := .dma }], spr := { w.spr with st := .loadScb } } = .sprite ∧
      turn { w with queue := [{ tick := 1, kind := .dma }], cpuRun := .sleep } = .idle ∧
      turn { w with cpuRun := .sleep } = .stuck := by decide

theorem witness_PushRule : (9 : Nat) < 10 ∧ (10 : Nat) ≤ 10 := by decide

theorem witness_QueueOrder :
    Queue.sorted [{ tick := 5, kind := .endFrame }, { tick := 10, kind := .dma }, { tick := 10, kind := .timer 1 }] = true ∧
      (pop wq).isSome = true := ⟨by decide, rfl⟩

/-- NOP at 0200, and JSR, whose third byte is fetched late. -/
theorem witness_StepRunsInstruction :
    (∀ s ∈ [about r0 [0xEA] [], about r0 [0x20, 0x00, 0x03] []],
      Quiet 3 s ∧ s.cont = .boundary ∧
        s.req = some { kind := .fetchOpcode, addr := s.regs.pc, value := 0 } ∧
        interruptFor s.irqMask s.regs = none ∧
        (∀ k, k < 3 → onChip s (s.regs.pc + BitVec.ofNat 16 k) = false)) ∧
      decode [0xEA, 0, 0] = .ok (.nop, [0, 0]) ∧ decode [0x20, 0x00, 0x03] = .ok (.jsr 0x0300, []) := by
  refine ⟨fun s h => ?_, by decide, by decide⟩
  simp only [List.mem_cons, List.not_mem_nil, or_false] at h
  obtain rfl | rfl := h <;>
    exact ⟨⟨rfl, rfl, fun _ h => absurd h List.not_mem_nil⟩, rfl, rfl, rfl, by decide⟩

theorem witness_StepIsArbiterSteps : ∃ t, step (about r0 [0xEA] []) = .next t := ⟨_, rfl⟩

/-- An NMI with I set, and an IRQ with I clear, each with the last queue that is quiet. -/
theorem witness_InterruptEntry :
    (∀ s ∈ [{ wq with irqMask := { noIrq with nmi := true }, regs := { w.regs with p := { p0 with i := true } } },
        { wq with irqMask := { noIrq with irq := true } }],
      Ready s ∧ s.cont = .boundary ∧
        s.req = some { kind := .fetchOpcode, addr := s.regs.pc, value := 0 } ∧ s.irqMask.reset = false ∧
        (s.irqMask.nmi = true ∨ s.irqMask.irq = true ∧ s.regs.p.i = false)) := by
  intro s h
  simp only [List.mem_cons, List.not_mem_nil, or_false] at h
  have q := ready_wq.1
  obtain rfl | rfl := h
  · exact ⟨⟨q, by decide, by decide, by decide⟩, rfl, rfl, rfl, .inl rfl⟩
  · exact ⟨⟨q, by decide, by decide, by decide⟩, rfl, rfl, rfl, .inr ⟨rfl, rfl⟩⟩

theorem witness_ResetEntry :
    let s := { wq with irqMask := { reset := true, nmi := true, irq := true } }
    Ready s ∧ s.cont = .boundary ∧ s.req = some { kind := .fetchOpcode, addr := s.regs.pc, value := 0 } ∧
      s.irqMask.reset = true :=
  ⟨⟨ready_wq.1, by decide, by decide, by decide⟩, rfl, rfl, rfl⟩

/-- With and without reload, at both ends of the clock codes and of the backups. -/
theorem witness_TimerProperty :
    (timer State.reset 0).enCount = false ∧ (timer State.reset 0).predicted = none ∧ (0x01 : Byte) ≠ 0 ∧
      (0x18 : Byte).getLsbD 3 = true ∧ (0x18 : Byte).toNat % 8 ≠ 7 ∧ (0x18 : Byte).getLsbD 4 = true ∧
      (timer State.reset 11).enCount = false ∧ (timer State.reset 11).predicted = none ∧ (0xFF : Byte) ≠ 0 ∧
      (0x0E : Byte).getLsbD 3 = true ∧ (0x0E : Byte).toNat % 8 ≠ 7 ∧ (timer State.reset 11).done = false := by
  decide

/-- A timer that is armed again by its fire, and one that is not. -/
theorem witness_FireAndRearm :
    let arms (T : Timer) : Bool := T.enReload && T.enCount && decide (T.clk ≠ 7) && decide (T.backup ≠ 0)
    arms (timer timing 0) = true ∧ arms (timer State.reset 0) = false := by decide

/-- An action one tick off, and an action that is in the queue. -/
theorem witness_StaleFireIgnored :
    (timer timing 0).predicted ≠ some 1159 ∧ { tick := 1160, kind := .timer 0 } ∈ timing.queue := by decide

/-- Not linked; linked and counting; linked at 0. -/
theorem witness_LinkedBorrow :
    let linked (c : Byte) : State :=
      setTimer 2 { timer timing 2 with clk := 7, enCount := true, enReload := true, backup := 5, count := c } timing
    let takes (s : State) : Bool :=
      let D := timer s 2
      decide (D.clk = 7) && D.enCount && !(D.done && !D.enReload)
    downstream 0 = some 2 ∧ takes timing = false ∧ takes (linked 1) = true ∧ (timer (linked 1) 2).count ≠ 0 ∧
      takes (linked 0) = true ∧ (timer (linked 0) 2).count = 0 := by decide

theorem witness_TimerInterrupt :
    (timer (setTimer 7 { timer State.reset 7 with enInt := true } { State.reset with intPending := 0x01 }) 7).enInt = true ∧
      (0x01 : Byte).getLsbD 0 = true ∧ (0x01 : Byte).getLsbD 7 = false := by decide

/-- The last visible row, the row after it, and DMA off; no row open; a row whose hblank comes at the last tick
that is late and at the first that is not; a period that timer 0 is set to, and none. -/
theorem witness_HblankAndVblank :
    let opens (d r : Byte) : Bool := d.getLsbD 0 && decide (r.toNat < 102)
    let last := 7 + Config.dmaFirstOffset + 9 * Config.dmaBurstInterval
    let late (t : Nat) : Prop := t ≤ 7 + Config.dmaFirstOffset + 9 * Config.dmaBurstInterval
    opens 0x0D 101 = true ∧ opens 0x0D 102 = false ∧ opens 0x0C 0 = false ∧ State.reset.display.row = none ∧
      ({ Display.reset with row := some 3, burst := 10, lineTick := 7 } : Display).row = some 3 ∧
      late last ∧ ¬ late (last + 1) ∧ hblankPeriod timing = some 160 ∧ hblankPeriod State.reset = none := by
  refine ⟨by decide, by decide, by decide, rfl, rfl, Nat.le_refl _, Nat.not_succ_le_self _, by decide, by decide⟩

/-- No row; the first and the last burst of a row. -/
theorem witness_BurstStoresBytes :
    State.reset.display.row = none ∧
      ∀ b ∈ [0, 9], ({ Display.reset with row := some 3, burst := b } : Display).row ≠ none ∧ b < 10 := by decide

/-- The last pixel of a row with all its bursts, in the mode the spec defines; ticks on both sides of a palette
write, and two colours. -/
theorem witness_FinishedRow :
    159 < 160 ∧ 159 / 16 < 10 ∧ definedMode 0x0D = true ∧ Display.reset.broken = false ∧
      (1 : Nat) ≠ (0x02 : Byte).toNat ∧ (4 : Nat) < 5 ∧ (5 : Nat) ≤ 5 ∧ (0xF : Nibble) ≠ 0 := by decide

/-- A write that starts a run, one that sleeps, one that does nothing; and FINISH in flight. -/
theorem witness_SleepAndSpriteRun :
    let starts (c : ChipA) : Bool := c.sprgo.getLsbD 0 && c.suzybusen.getLsbD 0
    starts { ChipA.reset with sprgo := 1, suzybusen := 1 } = true ∧ starts ChipA.reset = false ∧
      State.reset.intPending = 0 ∧ { State.reset with intPending := 0x80 }.intPending ≠ 0 ∧
      (walkAgain State.reset).spr.cont = .finish ∧
      (walkAgain State.reset).spr.req = some { kind := .finish, addr := 0, mask := 0, data := 0 } := by decide

/-- A skipped sprite at 0100, the lowest address of an SCB. -/
theorem witness_SkippedSprite :
    let s : State := { poke State.reset (0x0101, [0x04]) with chipA := { ChipA.reset with scbnext := 0x0100 } }
    hiByte s.chipA.scbnext ≠ 0 ∧ s.spr.coll.mask = 0 ∧ s.spr.video.mask = 0 ∧
      (ramRead s (s.chipA.scbnext + 1)).getLsbD 2 = true := by decide

/-- The depository write in flight. -/
def depositing : State :=
  { poke State.reset (0x1013, [0xAA]) with
    spr :=
      { Sprite.reset with
        st := .renderSprite, cont := .depo
        req := some { kind := .writeByte, addr := 0x1013, mask := 0xFF, data := 0x04 } }
    cpuRun := .stalled }

theorem witness_SpriteStepWrites :
    Memory.wf 65536 depositing.ram = true ∧
      depositing.spr.req = some { kind := .writeByte, addr := 0x1013, mask := 0xFF, data := 0x04 } ∧
      ∃ t, spriteStep depositing = .ok t := ⟨by decide, rfl, _, rfl⟩

/-- Power-on has one request in flight, of the kind waited for. -/
theorem cpuWaits_reset : CpuWaits State.reset := ⟨_, rfl, rfl, fun h => by simp at h⟩

theorem witness_MemoryQueueKept :
    (∃ t, step timing = .next t) ∧ memoryWf timing = true ∧ Queue.sorted timing.queue = true :=
  ⟨⟨_, rfl⟩, by decide, by decide⟩

/-- The sprite engine owns the bus. -/
theorem witness_ProtocolKept :
    CpuWaits depositing ∧ SpriteWaits depositing ∧ StalledWhileSprite depositing ∧
      ∃ t, step depositing = .next t :=
  ⟨⟨_, rfl, rfl, fun h => by simp at h⟩, fun _ => ⟨_, rfl, rfl⟩, ⟨fun _ => rfl, fun _ => rfl⟩, _, rfl⟩

theorem witness_TimersKept : TimersScheduled timing ∧ ∃ t, step timing = .next t := by
  refine ⟨fun n f h => ?_, _, rfl⟩
  have H : ∀ n : Fin 12, n = 0 ∨ (timer timing n).predicted = none := by decide
  obtain rfl | hn := H n
  · obtain rfl : f = 1160 := by
      have : (timer timing 0).predicted = some 1160 := by decide
      rw [this] at h
      simpa using h.symm
    exact ⟨by decide, by decide, by decide⟩
  · rw [hn] at h; cases h

/-- The level told, the level about to be told to a sleeping CPU, and a display with a row open. -/
theorem witness_LevelAndDisplayKept :
    let s : State :=
      { State.reset with
        intPending := 1, cpuRun := .sleep, queue := [{ tick := 0, kind := .irqUpdate }]
        display := { Display.reset with row := some 101, burst := 10, dmaAddr := 0xFFFC } }
    LevelTold State.reset ∧ LevelTold s ∧ SleepEnds s ∧ DisplayInRange s ∧ ∃ t, step s = .next t := by
  refine ⟨.inl rfl, .inr ⟨_, .head _, rfl⟩, fun _ _ => ⟨_, .head _, rfl⟩, ⟨by decide, fun r h => ?_, by decide⟩, _, rfl⟩
  obtain rfl : (101 : Byte) = r := by simpa using h
  decide

/-- A state in which the machine has no step. -/
theorem witness_OnlyStuckFaults :
    let s : State := { State.reset with cpuRun := .sleep }
    CpuWaits s ∧ SpriteWaits s ∧ step s = .fault .stuck :=
  ⟨⟨_, rfl, rfl, fun h => by simp at h⟩, fun h => by simp [spriteActive, State.reset, Sprite.reset, SprState.active] at h,
    rfl⟩

end Sys2Proof.Tests
end

section
/-! Proofs for the family of 10_state.md: what every step keeps. Each operation of the machine has one lemma
here that says what it leaves alone; a step is then one of them after another. -/

namespace Sys2Proof.Machine

/-! ## The order of the queue -/

/-- Two actions are always in order one way round. -/
theorem Action.le_of_not_le {x y : Action} (h : x.le y = false) : y.le x = true := by
  simp only [Action.le, Bool.or_eq_false_iff, Bool.and_eq_false_iff, decide_eq_false_iff_not,
    beq_eq_false_iff_ne] at h
  simp only [Action.le, Bool.or_eq_true, Bool.and_eq_true, decide_eq_true_eq, beq_iff_eq]
  omega

/-- A queue of two actions or more is in order when its first two are and its tail is. -/
theorem Queue.sorted_cons_cons {x y : Action} {q : List Action} :
    Queue.sorted (x :: y :: q) = true ↔ x.le y = true ∧ Queue.sorted (y :: q) = true := by
  simp only [Queue.sorted, Bool.and_eq_true]

/-- What is left after the first action is in order. -/
theorem Queue.sorted_tail {x : Action} {q : List Action} (h : Queue.sorted (x :: q) = true) :
    Queue.sorted q = true := by
  cases q with
  | nil => rfl
  | cons y q => exact (Queue.sorted_cons_cons.1 h).2

/-- An action put where `insertAction` puts it leaves the queue in order (20_memory.md R92). -/
theorem Queue.sorted_insertAction (e : Action) {q : List Action} (h : Queue.sorted q = true) :
    Queue.sorted (insertAction e q) = true := by
  induction q with
  | nil => rfl
  | cons x q ih =>
    have hi := ih (Queue.sorted_tail h)
    by_cases hx : x.le e = true
    · rw [insertAction, if_pos hx]
      cases q with
      | nil => exact Queue.sorted_cons_cons.2 ⟨hx, rfl⟩
      | cons y q =>
        have hy := (Queue.sorted_cons_cons.1 h).1
        simp only [insertAction] at hi ⊢
        split at hi
        · next hye => rw [if_pos hye]; exact Queue.sorted_cons_cons.2 ⟨hy, hi⟩
        · next hye => rw [if_neg hye]; exact Queue.sorted_cons_cons.2 ⟨hx, hi⟩
    · rw [insertAction, if_neg hx]
      exact Queue.sorted_cons_cons.2 ⟨Action.le_of_not_le (by simpa using hx), h⟩

/-! ## What the sprite engine can change between its requests -/

/-- Equal but for the sprite engine, the chip A registers the engine needs, and what a run does to the CPU: its
run state and the predictor. -/
def OnlySprite (s t : State) : Prop :=
  t = { s with
        spr := t.spr, chipA := { t.chipA with other := s.chipA.other }, cpuRun := t.cpuRun
        seqNext := t.seqNext }

theorem OnlySprite.refl (s : State) : OnlySprite s s := rfl

theorem OnlySprite.trans {s t u : State} (h₁ : OnlySprite s t) (h₂ : OnlySprite t u) : OnlySprite s u := by
  unfold OnlySprite at h₁ h₂
  rw [h₁] at h₂
  exact h₂

theorem sprEmit_onlySprite (r : SprReq) (k : SprCont) (s : State) : OnlySprite s (sprEmit r k s) := rfl

theorem flushColl_onlySprite (k : SprCont) (s : State) : OnlySprite s (flushColl k s) := rfl

theorem flushVideo_onlySprite (k : SprCont) (s : State) : OnlySprite s (flushVideo k s) := rfl

theorem addColl_onlySprite (src : DepoSource) (p : Pixel) (s : State) : OnlySprite s (addColl src p s) := rfl

theorem addVideo_onlySprite (p : Pixel) (s : State) : OnlySprite s (addVideo p s) := rfl

theorem startRender_onlySprite (s : State) : OnlySprite s (startRender s) := rfl

theorem finishRun_onlySprite (s : State) : OnlySprite s (finishRun s) := rfl

theorem flushBoth_onlySprite (k : AfterFlush) (s : State) : OnlySprite s (flushBoth k s) := by
  simp only [flushBoth]
  split
  · exact flushColl_onlySprite _ s
  · split
    · exact flushVideo_onlySprite _ s
    · cases k <;> exact sprEmit_onlySprite _ _ s

theorem drawPixels_onlySprite (ps : List Pixel) (s : State) : OnlySprite s (drawPixels ps s) := by
  induction ps generalizing s with
  | nil => exact flushBoth_onlySprite _ s
  | cons p ps ih =>
    rw [drawPixels]
    split
    · exact flushColl_onlySprite _ s
    · have hc : OnlySprite s (if collides s p.c then addColl Config.depoSource p s else s) := by
        split
        · exact addColl_onlySprite _ p s
        · exact .refl s
      refine hc.trans ?_
      generalize (if collides s p.c then addColl Config.depoSource p s else s) = s₁
      dsimp only
      split
      · exact flushVideo_onlySprite _ s₁
      · refine OnlySprite.trans ?_ (ih _)
        split
        · exact addVideo_onlySprite p s₁
        · exact .refl s₁

theorem lineData_onlySprite (todo : List (Addr × Bool)) (s : State) : OnlySprite s (lineData todo s) := by
  cases todo with
  | nil => exact OnlySprite.trans (by rfl) (drawPixels_onlySprite _ _)
  | cons q todo => exact sprEmit_onlySprite _ _ s

theorem scbStore_onlySprite (d : ScbDst) (bytes : List Byte) (s : State) :
    OnlySprite s (scbStore d bytes s) := by
  cases d with
  | high r => cases r <;> rfl
  | _ => rfl

theorem walk_onlySprite (s : State) : OnlySprite s (walk s) := by
  simp only [walk]
  split
  · exact flushBoth_onlySprite _ s
  · rfl

theorem walkAgain_onlySprite (s : State) : OnlySprite s (walkAgain s) :=
  OnlySprite.trans (by rfl) (walk_onlySprite _)

theorem startRun_onlySprite (s : State) : OnlySprite s (startRun s) :=
  OnlySprite.trans (by rfl) (walkAgain_onlySprite _)

theorem loadBody_onlySprite (todo : List (ScbDst × Addr)) (s : State) : OnlySprite s (loadBody todo s) := by
  cases todo with
  | nil => exact startRender_onlySprite s
  | cons q todo => exact sprEmit_onlySprite _ _ s

theorem loadHead_onlySprite (todo : List (ScbDst × Addr)) (s : State) : OnlySprite s (loadHead todo s) := by
  cases todo with
  | nil =>
    simp only [loadHead]
    split
    · exact walk_onlySprite s
    · exact loadBody_onlySprite _ s
  | cons q todo => exact sprEmit_onlySprite _ _ s

theorem endSprite_onlySprite (s : State) : OnlySprite s (endSprite s) := by
  simp only [endSprite]
  split
  · exact sprEmit_onlySprite _ _ s
  · exact walkAgain_onlySprite s

theorem lineOffset_onlySprite (o : Byte) (s : State) : OnlySprite s (lineOffset o s) := by
  simp only [lineOffset]
  split
  · exact endSprite_onlySprite s
  · split
    · split
      · rfl
      · exact endSprite_onlySprite s
    · exact OnlySprite.trans (by rfl) (lineData_onlySprite _ _)

/-- However the engine resumes, it runs to its next request without touching the clock, the queue, the RAM, the
ROM or the stored chip registers (60_exceptions.md R531). -/
theorem sprResume_onlySprite (bytes : List Byte) (s : State) : OnlySprite s (sprResume bytes s) := by
  simp only [sprResume]
  split
  case h_1 | h_2 | h_4 => exact .refl s
  case h_3 => exact (scbStore_onlySprite _ _ s).trans (loadHead_onlySprite _ _)
  case h_5 => exact (scbStore_onlySprite _ _ s).trans (loadBody_onlySprite _ _)
  case h_6 => exact lineOffset_onlySprite _ s
  case h_7 => exact OnlySprite.trans (by rfl) (lineData_onlySprite _ _)
  case h_8 => exact drawPixels_onlySprite _ s
  case h_9 => exact (addVideo_onlySprite _ s).trans (drawPixels_onlySprite _ _)
  case h_10 => exact flushBoth_onlySprite _ s
  case h_11 => exact walkAgain_onlySprite s
  case h_12 => exact finishRun_onlySprite s

/-! ## What every operation keeps -/

/-- From `s` to `t` memory keeps its canonical form and the queue its order, the ROM is the same, and the clock
has not gone back. -/
structure Keeps (s t : State) : Prop where
  memory : memoryWf s = true → memoryWf t = true
  queue : Queue.sorted s.queue = true → Queue.sorted t.queue = true
  rom : t.rom = s.rom
  now : s.now ≤ t.now

/-- The fields that `Keeps` speaks of. -/
def held (s : State) : List Host.Cell × List Host.Cell × List Host.Cell × List Action × List Byte × Nat :=
  (s.ram, s.chipB, s.chipA.other, s.queue, s.rom, s.now)

theorem memoryWf_iff {s : State} :
    memoryWf s = true ↔
      Memory.wf 65536 s.ram = true ∧ Memory.wf 256 s.chipB = true ∧ Memory.wf 256 s.chipA.other = true := by
  simp only [memoryWf, Bool.and_eq_true, and_assoc]

/-- An operation on other fields keeps the lot. -/
theorem Keeps.of_held {s t : State} (h : held t = held s) : Keeps s t := by
  simp only [held, Prod.mk.injEq] at h
  obtain ⟨hram, hB, hA, hq, hrom, hnow⟩ := h
  exact ⟨fun hw => by simpa only [memoryWf, hram, hB, hA] using hw, fun hs => hq ▸ hs, hrom, hnow.ge⟩

theorem Keeps.refl (s : State) : Keeps s s := .of_held rfl

theorem Keeps.trans {s t u : State} (h₁ : Keeps s t) (h₂ : Keeps t u) : Keeps s u :=
  ⟨h₂.memory ∘ h₁.memory, h₂.queue ∘ h₁.queue, h₂.rom.trans h₁.rom, Nat.le_trans h₁.now h₂.now⟩

theorem OnlySprite.keeps {s t : State} (h : OnlySprite s t) : Keeps s t := by
  unfold OnlySprite at h
  rw [h]
  exact .of_held rfl

/-! ### Memory, the queue and the clock -/

theorem ramWrite_keeps (s : State) (a : Addr) (v : Byte) : Keeps s (ramWrite s a v) where
  memory h := by
    obtain ⟨hram, hB, hA⟩ := memoryWf_iff.1 h
    exact memoryWf_iff.2 ⟨ramWrite_wf s a v hram, hB, hA⟩
  queue := id
  rom := rfl
  now := Nat.le_refl _

theorem storeB_keeps (o v : Byte) (s : State) : Keeps s (storeB o v s) where
  memory h := by
    obtain ⟨hram, hB, hA⟩ := memoryWf_iff.1 h
    exact memoryWf_iff.2 ⟨hram, memWrite_wf v hB o.isLt, hA⟩
  queue := id
  rom := rfl
  now := Nat.le_refl _

theorem enqueue_keeps (e : Action) (s : State) : Keeps s (enqueue e s) where
  memory := id
  queue := Queue.sorted_insertAction e
  rom := rfl
  now := Nat.le_refl _

theorem pushAfter_keeps (t delay : Nat) (k : Kind) (s : State) : Keeps s (pushAfter t delay k s) :=
  enqueue_keeps _ s

/-- Time is charged, and the predictor set. -/
theorem charge_keeps (d : Nat) (p : Option Addr) (s : State) :
    Keeps s { s with seqNext := p, now := s.now + d } :=
  ⟨id, id, rfl, Nat.le_add_right _ _⟩

/-! ### The sprite step -/

theorem sprService_keeps (src : DepoSource) (r : SprReq) (s : State) : Keeps s (sprService src r s).2 := by
  simp only [sprService]
  split
  case h_1 | h_2 | h_3 => exact .refl s
  case h_4 | h_6 | h_7 => exact ramWrite_keeps s _ _
  case h_5 =>
    refine Keeps.trans ?_ (ramWrite_keeps _ _ _)
    exact .of_held rfl

theorem spriteStep_keeps {s t : State} (h : spriteStep s = .ok t) : Keeps s t := by
  obtain ⟨r, _, _, rfl⟩ := spriteStep_ok h
  exact ((sprService_keeps _ r s).trans (charge_keeps _ _ _)).trans (sprResume_onlySprite _ _).keeps

/-! ### Display, interrupt status and timers -/

theorem setPending_keeps (t : Nat) (v : Byte) (s : State) : Keeps s (setPending t v s) := by
  simp only [setPending]
  split
  · exact .refl s
  · exact Keeps.trans (.of_held (by rfl)) (pushAfter_keeps _ _ _ _)

theorem setTimer_keeps (n : Fin 12) (T : Timer) (s : State) : Keeps s (setTimer n T s) :=
  .of_held rfl

theorem schedule_keeps (n : Fin 12) (T : Timer) (t : Nat) (s : State) : Keeps s (schedule n T t s) := by
  simp only [schedule]
  split
  · exact (setTimer_keeps _ _ s).trans (pushAfter_keeps _ _ _ _)
  · exact setTimer_keeps _ _ s

theorem breakFrame_keeps (b : Bool) (s : State) : Keeps s (breakFrame b s) :=
  .of_held rfl

theorem finishOpenLine_keeps (t : Nat) (s : State) : Keeps s (finishOpenLine t s) := by
  simp only [finishOpenLine]
  split
  · exact .refl s
  · exact .of_held rfl

theorem latchDmaAddr_keeps (r : Byte) (s : State) : Keeps s (latchDmaAddr r s) := by
  simp only [latchDmaAddr]
  split
  · exact .of_held rfl
  · exact .refl s

theorem openRow_keeps (t : Nat) (r : Byte) (s : State) : Keeps s (openRow t r s) := by
  simp only [openRow]
  split
  · exact Keeps.trans (.of_held (by rfl)) (pushAfter_keeps _ _ _ _)
  · exact .of_held rfl

theorem hblank_keeps (t : Nat) (r : Byte) (s : State) : Keeps s (hblank t r s) :=
  (((breakFrame_keeps _ s).trans (finishOpenLine_keeps t _)).trans (latchDmaAddr_keeps r _)).trans
    (openRow_keeps t r _)

theorem vblank_keeps (t : Nat) (s : State) : Keeps s (vblank t s) :=
  (finishOpenLine_keeps t s).trans (.of_held rfl)

theorem pushData_keeps (t : Nat) (b : List Byte) (s : State) : Keeps s (pushData t b s) := by
  simp only [pushData]
  split
  · exact .refl s
  · split
    · split
      · exact Keeps.trans (.of_held (by rfl)) (pushAfter_keeps _ _ _ _)
      · exact .of_held rfl
    · exact .of_held rfl

theorem dmaBurst_keeps (t : Nat) (s : State) : Keeps s (dmaBurst t s) :=
  (charge_keeps _ _ s).trans (pushData_keeps t _ _)

theorem triggerInt_keeps (n : Fin 12) (t : Nat) (s : State) : Keeps s (triggerInt n t s) := by
  simp only [triggerInt]
  split
  · exact setPending_keeps _ _ s
  · exact .refl s

theorem triggerDevice_keeps (n : Fin 12) (t : Nat) (s : State) : Keeps s (triggerDevice n t s) := by
  simp only [triggerDevice]
  split
  case h_1 => exact (breakFrame_keeps _ s).trans (hblank_keeps t _ _)
  case h_2 => exact (breakFrame_keeps _ s).trans (vblank_keeps t _)
  all_goals exact .of_held rfl

theorem fireHead_keeps (n : Fin 12) (t : Nat) (s : State) : Keeps s (fireHead n t s) :=
  ((setTimer_keeps _ _ s).trans (triggerInt_keeps n t _)).trans (triggerDevice_keeps n t _)

theorem fireTail_keeps (n : Fin 12) (t : Nat) (s : State) : Keeps s (fireTail n t s) := by
  simp only [fireTail]
  split
  · exact schedule_keeps _ _ _ s
  · exact .refl s

theorem borrowChain_keeps (t : Nat) (ds : List (Fin 12)) (s : State) : Keeps s (borrowChain t ds s) := by
  induction ds generalizing s with
  | nil => exact .refl s
  | cons d ds ih =>
    simp only [borrowChain]
    split
    · refine (setTimer_keeps d { timer s d with borrowIn := true } s).trans ?_
      split
      · exact setTimer_keeps _ _ _
      · exact ((fireHead_keeps d t _).trans (ih _)).trans (fireTail_keeps d t _)
    · exact .refl s

theorem timerFire_keeps (n : Fin 12) (t : Nat) (s : State) : Keeps s (timerFire n t s) :=
  ((fireHead_keeps n t s).trans (borrowChain_keeps t _ _)).trans (fireTail_keeps n t _)

/-- Every handler (20_memory.md R96). -/
theorem handle_keeps (e : Action) (s : State) : Keeps s (handle e s) := by
  simp only [handle]
  split
  · exact dmaBurst_keeps _ s
  · simp only [timerEvent]
    split
    · exact timerFire_keeps _ _ s
    · exact .refl s
  · exact .of_held rfl
  · exact .of_held rfl

/-- What is left when an action is popped is in order, if the queue was. -/
theorem pop_keeps {s t : State} {e : Action} (h : pop s = some (e, t)) : Keeps s t := by
  obtain ⟨hq, ht⟩ := pop_eq_some.1 h
  rw [ht]
  exact ⟨id, fun hs => Queue.sorted_tail (hq ▸ hs), rfl, Nat.le_refl _⟩

theorem drain_keeps (s : State) : Keeps s (drain s) := by
  simp only [drain]
  split
  · exact .refl s
  · next h => exact (pop_keeps h).trans (handle_keeps _ _)

/-- When no action is due, the first of the queue lies ahead (20_memory.md R93). -/
theorem now_lt_peekTick {s : State} {t : Nat} (hd : due s = false) (ht : peekTick s = some t) : s.now < t := by
  cases hq : s.queue with
  | nil => simp [peekTick, hq] at ht
  | cons e q =>
    simp only [peekTick, hq, Option.some.injEq] at ht
    simp only [due, hq, decide_eq_false_iff_not] at hd
    omega

/-- An idle jump made when no action is due goes forward (20_memory.md R104). -/
theorem idleJump_keeps {s : State} (hd : due s = false) : Keeps s (idleJump s) := by
  simp only [idleJump]
  split
  · exact .refl s
  · next t ht => exact ⟨id, id, rfl, (now_lt_peekTick hd ht).le⟩

/-! ### The chips and the bus -/

theorem chipBRead_keeps (o : Byte) (t : Nat) (s : State) : Keeps s (chipBRead o t s).2 := by
  simp only [chipBRead]
  split <;> exact .of_held rfl

theorem chipARead_keeps (o : Byte) (s : State) : Keeps s (chipARead o s).2 := by
  simp only [chipARead]
  split <;> exact .of_held rfl

theorem storeHigh_keeps (n : Fin 12) (o v : Byte) (s : State) : Keeps s (storeHigh n o v s) := by
  simp only [storeHigh]
  split
  · exact .refl s
  · exact storeB_keeps _ _ s

theorem cpusleepWrite_keeps (s : State) : Keeps s (cpusleepWrite s) := by
  simp only [cpusleepWrite]
  split
  · exact (startRun_onlySprite s).keeps
  · split
    · exact .refl s
    · exact .of_held rfl

theorem chipBWrite_keeps (o v : Byte) (t : Nat) (s : State) : Keeps s (chipBWrite o v t s) := by
  simp only [chipBWrite]
  cases regB o with
  | backup n | ctla n | count n => exact schedule_keeps n _ t s
  | ctlb n => exact (storeHigh_keeps n o v s).trans (schedule_keeps n _ t _)
  | storage | writeOnly => exact storeB_keeps o v s
  | intrst | intset => exact setPending_keeps t _ s
  | cpusleep => exact cpusleepWrite_keeps s
  | _ => exact .of_held rfl

/-- A 16-bit register is no stored byte. -/
@[simp] theorem setWordA_other (w : WordA) (v : Addr) (c : ChipA) : (setWordA w v c).other = c.other := by
  cases w <;> rfl

theorem chipAWrite_keeps (o v : Byte) (s : State) : Keeps s (chipAWrite o v s) := by
  simp only [chipAWrite]
  cases regA o with
  | low w | high w => exact .of_held (by simp [held])
  | other =>
    refine ⟨fun h => ?_, id, rfl, Nat.le_refl _⟩
    obtain ⟨hram, hB, hA⟩ := memoryWf_iff.1 h
    exact memoryWf_iff.2 ⟨hram, hB, memWrite_wf v hA o.isLt⟩
  | _ => exact .of_held rfl

theorem busRead_keeps (a : Addr) (s : State) : Keeps s (busRead a s).2 := by
  simp only [busRead]
  cases regionOf a s.mapctl with
  | chipA o => exact chipARead_keeps o s
  | chipB o => exact chipBRead_keeps o _ s
  | _ => exact .refl s

theorem busWrite_keeps (a : Addr) (v : Byte) (s : State) : Keeps s (busWrite a v s) := by
  simp only [busWrite]
  cases regionOf a s.mapctl with
  | ram | rom i => exact ramWrite_keeps s a v
  | chipA o => exact chipAWrite_keeps o v s
  | chipB o => exact chipBWrite_keeps o v _ s
  | mapctl => exact .of_held rfl

/-- A CPU request, answered (20_memory.md R103). -/
theorem serve_keeps (r : Request) (s : State) : Keeps s (serve r s).2 := by
  have ha : Keeps s (access r s).2 := by
    simp only [access]
    split
    · exact busWrite_keeps _ _ s
    · exact busRead_keeps _ s
  exact ha.trans (charge_keeps _ _ _)

/-! ### The CPU's turn -/

theorem Micro.after_keeps (m : Micro) (v : Byte) (s : State) : Keeps s (m.after v s) := by
  cases m <;> exact .of_held rfl

/-- The CPU suspended on an element's request, after what the element does before it. -/
theorem Micro.suspend_keeps (m : Micro) (r : Request) (k : Cont) (s : State) :
    Keeps s (suspend r k (m.before s)) := by
  cases m <;> exact .of_held rfl

theorem perform_keeps (l : List Micro) (s : State) : Keeps s (perform l s) := by
  induction l generalizing s with
  | nil => exact .of_held rfl
  | cons m rest ih =>
    cases hr : m.request s with
    | none =>
      rw [perform_internal hr]
      exact (m.after_keeps 0 s).trans (ih _)
    | some r =>
      have hs := m.suspend_keeps r (.running (m :: rest)) s
      by_cases ht : turn (suspend r (.running (m :: rest)) (m.before s)) = .cpu
      · rw [perform_request hr ht]
        exact ((hs.trans (serve_keeps r _)).trans (m.after_keeps _ _)).trans (ih _)
      · rw [perform_suspend hr ht]
        exact hs

/-- The machine with which the CPU goes on after a response. -/
def Resumed.state : Resumed → State
  | .fetch s => s
  | .instr _ s => s
  | .seq _ s => s

theorem fetchOrRun_keeps (op : Byte) (got : List Byte) (s : State) :
    Keeps s (fetchOrRun op got s).state := by
  simp only [fetchOrRun]
  split <;> exact .of_held rfl

theorem cpuResume_keeps (k : Cont) (v : Byte) (s : State) : Keeps s (cpuResume k v s).state := by
  cases k with
  | boundary =>
    simp only [cpuResume, boundaryResume]
    split
    · exact .of_held rfl
    · exact Keeps.trans (.of_held (by rfl)) (fetchOrRun_keeps _ _ _)
  | operands op got => exact Keeps.trans (.of_held (by rfl)) (fetchOrRun_keeps _ _ _)
  | running seq =>
    cases seq with
    | nil => exact .refl s
    | cons m rest => exact m.after_keeps v s

theorem cpuService_keeps {s : State} {r : Resumed} (h : cpuService s = .ok r) : Keeps s r.state := by
  simp only [cpuService] at h
  split at h
  · cases h
  · split at h
    · cases h; exact (serve_keeps _ _).trans (cpuResume_keeps _ _ _)
    · cases h

theorem cpuTurn_keeps {fuel : Nat} {s t : State} (h : cpuTurn fuel s = .next t) : Keeps s t := by
  induction fuel generalizing s with
  | zero => cases h; exact .refl _
  | succ fuel ih =>
    cases hr : cpuService s with
    | error f => simp [cpuTurn, hr] at h
    | ok r =>
      have hs := cpuService_keeps hr
      cases r with
      | fetch s' =>
        simp only [cpuTurn, hr] at h
        split at h
        · exact hs.trans (ih h)
        · cases h; exact hs
      | instr i s' =>
        simp only [cpuTurn, hr, exec_eq_next, Host.Outcome.next.injEq] at h
        exact h ▸ hs.trans (perform_keeps _ _)
      | seq l s' =>
        simp only [cpuTurn, hr, meaning, Host.Outcome.next.injEq] at h
        exact h ▸ hs.trans (perform_keeps _ _)

/-! ### The step -/

/-- The machine idles only when no action is due (20_memory.md R100). -/
theorem not_due_of_turn_idle {s : State} (h : turn s = .idle) : due s = false := by
  cases hd : due s with
  | false => rfl
  | true => simp [turn, hd] at h

theorem step_keeps {s t : State} (h : step s = .next t) : Keeps s t := by
  rw [step_of_turn] at h
  cases ht : turn s with
  | event =>
    simp only [ht, Host.Outcome.next.injEq] at h
    exact h ▸ drain_keeps s
  | sprite =>
    simp only [ht] at h
    cases hs : spriteStep s with
    | error f => simp [hs, outcome] at h
    | ok u =>
      simp only [hs, outcome, Host.Outcome.next.injEq] at h
      exact h ▸ spriteStep_keeps hs
  | cpu =>
    simp only [ht] at h
    exact cpuTurn_keeps h
  | idle =>
    simp only [ht, Host.Outcome.next.injEq] at h
    exact h ▸ idleJump_keeps (not_due_of_turn_idle ht)
  | stuck => simp [ht] at h

/-- Settles O56: a step is one agent's turn, and every operation that a turn is made of has `Keeps`. -/
theorem memoryQueueKept : Obligations.MemoryQueueKept := by
  intro s t h
  obtain ⟨hmem, hq, hrom, hnow⟩ := step_keeps h
  exact ⟨hmem, hq, hrom, hnow⟩

end Sys2Proof.Machine
end

section
/-! Proofs for the family of 10_state.md: which register stands at an offset, what a read of it gives, and what
a write of it leaves. -/

namespace Sys2Proof.Machine

/-! ## The register at a chip B offset (10_state.md R37) -/

theorem regB_system_backup {o : Byte} (h : o.toNat < 0x20) (hm : o.toNat % 4 = 0) :
    regB o = .backup (Fin.ofNat 12 (o.toNat / 4)) := by
  simp only [regB, if_pos h, hm]

theorem regB_audio {o : Byte} (h₁ : 0x20 ≤ o.toNat) (h₂ : o.toNat < 0x40) (hm : o.toNat % 8 ≤ 4) :
    regB o = if o.toNat % 8 = 4 then .backup (audioTimer o.toNat) else .storage := by
  simp only [regB, if_neg (Nat.not_lt.2 h₁), if_pos h₂]
  split
  case h_1 h4 => rw [if_pos h4]
  case h_5 h4 _ _ _ => rw [if_neg h4]
  all_goals omega

theorem regB_attenuation {o : Byte} (h : 0x40 ≤ o.toNat ∧ o.toNat ≤ 0x44 ∨ o.toNat = 0x50) :
    regB o = .storage := by
  simp only [regB, Bool.or_eq_true, decide_eq_true_eq]
  rw [if_neg (by omega), if_neg (by omega), if_pos (by omega)]

theorem regB_palette {o : Byte} (h₁ : 0xA0 ≤ o.toNat) (h₂ : o.toNat ≤ 0xBF) : regB o = .palette := by
  simp only [regB, Bool.or_eq_true, Bool.and_eq_true, decide_eq_true_eq]
  iterate 13 rw [if_neg (by omega)]
  rw [if_pos ⟨h₁, h₂⟩]

theorem regB_of_unassignedB {o : Byte} (h : unassignedB o.toNat = true) : regB o = .openBus := by
  simp only [unassignedB, Bool.or_eq_true, decide_eq_true_eq, beq_iff_eq] at h
  simp only [regB, Bool.or_eq_true, Bool.and_eq_true, decide_eq_true_eq]
  iterate 14 rw [if_neg (by omega)]

/-- An offset that reads back as written holds a timer backup, a stored byte or a palette register. -/
theorem regB_of_symmetricB {o : Byte} (h : symmetricB o.toNat = true) :
    (∃ n, regB o = .backup n) ∨ regB o = .storage ∨ regB o = .palette := by
  simp only [symmetricB, Bool.or_eq_true, decide_eq_true_eq] at h
  rcases h with (((⟨hlt, hm⟩ | ⟨hle, hlt, hm⟩) | hatt) | hatt) | ⟨hle, hle'⟩
  · exact .inl ⟨_, regB_system_backup hlt hm⟩
  · rw [regB_audio hle hlt hm]
    split
    · exact .inl ⟨_, rfl⟩
    · exact .inr (.inl rfl)
  · exact .inr (.inl (regB_attenuation (.inl hatt)))
  · exact .inr (.inl (regB_attenuation (.inr hatt)))
  · exact .inr (.inr (regB_palette hle hle'))

/-- The four registers of a timer stand side by side. -/
theorem regB_timerOffset (n : Fin 12) :
    regB (timerOffset n) = .backup n ∧ regB (timerOffset n + 1) = .ctla n ∧
      regB (timerOffset n + 2) = .count n ∧ regB (timerOffset n + 3) = .ctlb n := by
  revert n; decide

/-! ## Symmetric, unassigned and write-only chip B registers -/

/-- A timer after its own schedule computation (60_exceptions.md R481). -/
theorem timer_schedule_self (n : Fin 12) (T : Timer) (t : Nat) (s : State) :
    timer (schedule n T t s) n =
      { T with base := t, predicted := if T.runs then some (t + T.delay) else none } := by
  rw [timer_schedule, if_pos rfl]

/-- A schedule computation leaves the stored chip B bytes alone. -/
@[simp] theorem schedule_chipB (n : Fin 12) (T : Timer) (t : Nat) (s : State) :
    (schedule n T t s).chipB = s.chipB := by
  rw [schedule_eq]

/-- A stored byte reads back. -/
theorem storedB_storeB (o v : Byte) {s : State} (h : memoryWf s = true) : storedB (storeB o v s) o = v := by
  obtain ⟨_, hB, _⟩ := memoryWf_iff.1 h
  simp [storedB, memRead_memWrite v o.toNat hB]

theorem chipBRead_chipBWrite {o : Byte} (v : Byte) (t u : Nat) {s : State} (ho : symmetricB o.toNat = true)
    (h : memoryWf s = true) : (chipBRead o u (chipBWrite o v t s)).1 = v := by
  rcases regB_of_symmetricB ho with ⟨n, hr⟩ | hr | hr
  · simp only [chipBRead, chipBWrite, hr, backupWrite, timer_schedule_self]
  · simp only [chipBRead, chipBWrite, hr, storedB_storeB o v h]
  · simp only [chipBRead, chipBWrite, hr, paletteWrite_palette, palRead, if_pos]

theorem chipBRead_unassigned {o : Byte} (u : Nat) (s : State) (ho : unassignedB o.toNat = true) :
    chipBRead o u s = (0xFF, s) := by
  simp only [chipBRead, regB_of_unassignedB ho, openBus]

theorem chipBWrite_unassigned {o : Byte} (v : Byte) (t : Nat) (s : State) (ho : unassignedB o.toNat = true) :
    chipBWrite o v t s = s := by
  simp only [chipBWrite, regB_of_unassignedB ho]

theorem chipBRead_writeOnly {o : Byte} (u : Nat) (s : State) (ho : writeOnlyB o.toNat = true) :
    chipBRead o u s = (0xFF, s) := by
  simp only [writeOnlyB, Bool.or_eq_true, decide_eq_true_eq] at ho
  generalize hk : o.toNat = k at ho
  obtain rfl : o = BitVec.ofNat 8 k := by simp [← hk]
  rcases ho with ⟨hle, hle'⟩ | ⟨hle, hle'⟩ <;> interval_cases k <;> rfl

/-! ## Timer registers (60_exceptions.md R484 to R487) -/

/-- Control A as a number: each field at its place, and nothing at bit 6. -/
theorem ctlaRead_eq (n : Fin 12) (T : Timer) :
    ctlaRead n T =
      BitVec.ofNat 8
        (128 * (if n.val < 8 then T.enInt else T.extra.getLsbD 1).toNat + 32 * (T.extra.getLsbD 0).toNat +
          16 * T.enReload.toNat + 8 * T.enCount.toNat + T.clk.toNat) := by
  have hfields : ∀ (b₇ b₅ b₄ b₃ : Bool) (k : BitVec 3),
      BitVec.ofBool b₇ ++ 0#1 ++ BitVec.ofBool b₅ ++ BitVec.ofBool b₄ ++ BitVec.ofBool b₃ ++ k =
        BitVec.ofNat 8 (128 * b₇.toNat + 32 * b₅.toNat + 16 * b₄.toNat + 8 * b₃.toNat + k.toNat) := by
    decide
  exact hfields _ _ _ _ _

/-- A control A write puts bit 5 into the low bit of `extra`, whatever timer it is. -/
theorem ctlaFields_extra_zero (n : Fin 12) (v : Byte) (T : Timer) :
    (ctlaFields n v T).extra.getLsbD 0 = v.getLsbD 5 := by
  simp only [ctlaFields]
  split <;> exact (BitVec.getLsbD_append ..).trans (by simp)

/-- Bit 7 of a control A write is the interrupt enable of a system timer, and the high bit of `extra` of an
audio channel. -/
theorem ctlaFields_bit_seven (n : Fin 12) (v : Byte) (T : Timer) :
    (if n.val < 8 then (ctlaFields n v T).enInt else (ctlaFields n v T).extra.getLsbD 1) = v.getLsbD 7 := by
  simp only [ctlaFields]
  split
  · rfl
  · exact (BitVec.getLsbD_append ..).trans (by simp)

/-- The fields a control A write sets are read back as they were written, but for bit 6. -/
theorem ctlaRead_ctlaFields (n : Fin 12) (v : Byte) (T : Timer) :
    ctlaRead n (ctlaFields n v T) = v &&& 0xBF := by
  have hbits : ∀ v : Byte,
      BitVec.ofBool (v.getLsbD 7) ++ 0#1 ++ BitVec.ofBool (v.getLsbD 5) ++ BitVec.ofBool (v.getLsbD 4) ++
        BitVec.ofBool (v.getLsbD 3) ++ v.extractLsb' 0 3 = v &&& 0xBF := by
    decide
  rw [ctlaRead, ctlaFields_extra_zero, ctlaFields_bit_seven]
  exact hbits v

theorem countAt_eq (T : Timer) (u : Nat) :
    T.countAt u =
      if T.predicted = none then T.count
      else T.count - BitVec.ofNat 8 ((u - T.base) / (16 * 2 ^ T.clk.toNat)) := by
  cases hp : T.predicted with
  | none => simp [Timer.countAt, hp]
  | some f => simp [Timer.countAt, hp, Timer.cur, Timer.unit, Nat.shiftLeft_eq]

/-- At the tick of its schedule computation a timer has not counted yet. -/
theorem countAt_base (T : Timer) : T.countAt T.base = T.count := by
  rw [countAt_eq]
  split <;> simp

/-- The done bit and the high nibble stand where control B has them. -/
theorem ctlb_fields (high : Nibble) (done : Bool) (low : BitVec 3) :
    (high ++ BitVec.ofBool done ++ low : Byte).getLsbD 3 = done ∧
      hiNib (high ++ BitVec.ofBool done ++ low) = high := by
  revert high done low
  decide

theorem ctlbRead_done (T : Timer) (high : Nibble) (free : Byte) :
    (ctlbRead T high free).getLsbD 3 = T.done :=
  (ctlb_fields high T.done _).1

theorem hiNib_ctlbRead (T : Timer) (high : Nibble) (free : Byte) : hiNib (ctlbRead T high free) = high :=
  (ctlb_fields high T.done _).2

/-- The mask a channel's MISC register is stored under keeps its high nibble. -/
theorem hiNib_and_F0 (v : Byte) : hiNib (v &&& 0xF0) = hiNib v := by
  ext i hi
  interval_cases i <;> simp [hiNib]

/-- The high nibble of control B after a write: none for a system timer, the byte's for an audio channel. -/
theorem ctlbHigh_storeHigh (n : Fin 12) (o v : Byte) {s : State} (h : memoryWf s = true) :
    ctlbHigh (storeHigh n o v s) n o = if n.val < 8 then 0 else hiNib v := by
  simp only [ctlbHigh, storeHigh]
  split
  · rfl
  · rw [storedB_storeB o _ h, hiNib_and_F0]

/-- The stored nibble is read past a schedule computation. -/
theorem ctlbHigh_schedule (n m : Fin 12) (o : Byte) (T : Timer) (t : Nat) (s : State) :
    ctlbHigh (schedule n T t s) m o = ctlbHigh s m o := by
  simp only [ctlbHigh, storedB, schedule_chipB]

/-- What the four registers of a timer read as, and read back as after a write. -/
theorem timer_registers (s : State) (n : Fin 12) (v : Byte) (t u : Nat) :
    let o := timerOffset n
    let T := timer s n
    chipBRead o u s = (T.backup, s) ∧
    chipBRead (o + 1) u s = (ctlaRead n T, s) ∧
    (chipBRead (o + 1) u (chipBWrite (o + 1) v t s)).1 = v &&& 0xBF ∧
    chipBRead (o + 2) u s = (T.countAt u, s) ∧
    (chipBRead (o + 2) t (chipBWrite (o + 2) v t s)).1 = v ∧
    (chipBRead (o + 3) u s).1.getLsbD 3 = T.done ∧
    (chipBRead (o + 3) u (chipBWrite (o + 3) v t s)).1.getLsbD 3 = v.getLsbD 3 ∧
    (memoryWf s = true →
      hiNib (chipBRead (o + 3) u (chipBWrite (o + 3) v t s)).1 = if n.val < 8 then 0 else hiNib v) := by
  intro o T
  obtain ⟨hbackup, hctla, hcount, hctlb⟩ := regB_timerOffset n
  refine ⟨?_, ?_, ?_, ?_, ?_, ?_, ?_, fun h => ?_⟩
  · simp only [chipBRead, o, hbackup, T]
  · simp only [chipBRead, o, hctla, T]
  · simp only [chipBRead, chipBWrite, o, hctla, ctlaWrite, timer_schedule_self]
    exact ctlaRead_ctlaFields n v _
  · simp only [chipBRead, o, hcount, T]
  · simp only [chipBRead, chipBWrite, o, hcount, countWrite, timer_schedule_self]
    exact countAt_base _
  · simp only [chipBRead, o, hctlb, ctlbRead_done, T]
  · simp only [chipBRead, chipBWrite, o, hctlb, ctlbWrite, ctlbRead_done, timer_schedule_self]
  · simp only [chipBRead, chipBWrite, o, hctlb, ctlbWrite, hiNib_ctlbRead, ctlbHigh_schedule]
    exact ctlbHigh_storeHigh n _ v h

/-! ## Chip A (10_state.md R42) -/

/-- Each 16-bit register of the list is the model's register at that offset and the next. -/
theorem exists_wordA_of_mem {w : WordReg} (hw : w ∈ chipAWords) :
    ∃ x : WordA, regA w.offset = .low x ∧ regA (w.offset + 1) = .high x ∧
      (∀ s : State, getWordA s x = w.get s.chipA) ∧ ∀ v c, setWordA x v c = w.set v c := by
  simp only [chipAWords, List.mem_cons, List.not_mem_nil, or_false] at hw
  rcases hw with rfl | rfl | rfl | rfl | rfl | rfl | rfl | rfl | rfl | rfl | rfl | rfl | rfl <;>
    exact ⟨_, rfl, rfl, fun _ => rfl, fun _ _ => rfl⟩

theorem word_registers (s : State) (v : Byte) {w : WordReg} (hw : w ∈ chipAWords) :
    let c := s.chipA
    chipAWrite w.offset v s = { s with chipA := w.set (pair (hiByte (w.get c)) v) c } ∧
    chipAWrite (w.offset + 1) v s = { s with chipA := w.set (pair v (loByte (w.get c))) c } ∧
    chipARead w.offset s = (loByte (w.get c), s) ∧ chipARead (w.offset + 1) s = (hiByte (w.get c), s) := by
  obtain ⟨x, hlow, hhigh, hget, hset⟩ := exists_wordA_of_mem hw
  simp only [chipAWrite, chipARead, hlow, hhigh, hget, hset, setLo, setHi, and_self]

/-- Bit 0 of SPRSYS is not the collaborator's. -/
theorem sprsys_bit_zero (s : State) : (chipARead 0x92 s).1.getLsbD 0 = false := by
  change (Config.inputByte s.draws 0x92 &&& 0xFE).getLsbD 0 = false
  simp

theorem chipA_writeOnly (s : State) :
    ∀ o ∈ ([0x80, 0x81, 0x82, 0x90, 0x91] : List Byte), chipARead o s = (0xFF, s) := by
  simp only [List.forall_mem_cons, List.not_mem_nil, false_imp_iff, implies_true, and_true]
  exact ⟨rfl, rfl, rfl, rfl, rfl⟩

/-- Settles O34: the register at each offset is known, and then its read and its write are one equation each. -/
theorem chipRoundTrip : Obligations.ChipRoundTrip := by
  refine ⟨fun s o v t u => ⟨?_, ?_, ?_⟩, fun s n v t u => ?_, fun s v w hw => word_registers s v hw,
    fun s v => ?_, fun s v t => ⟨rfl, rfl, rfl⟩⟩
  · exact fun ho h => chipBRead_chipBWrite v t u ho h
  · exact fun ho => ⟨chipBRead_unassigned u s ho, chipBWrite_unassigned v t s ho⟩
  · exact fun ho => chipBRead_writeOnly u s ho
  · intro o T
    rw [← ctlaRead_eq, ← countAt_eq]
    exact timer_registers s n v t u
  · exact ⟨rfl, rfl, chipA_writeOnly s, sprsys_bit_zero s, rfl, rfl, rfl, rfl, rfl, rfl⟩

end Sys2Proof.Machine
end

section
/-! Proofs for the family of 20_memory.md: the step of the machine against the arbiter step of R100. A sequence
performed on the CPU's turn is the same sequence emitted one request at a time, and `Reaches` composes the
arbiter steps of its parts. -/

namespace Sys2Proof.Machine

/-! ## Runs of arbiter steps (20_memory.md R100) -/

/-- Some number of arbiter steps leads from `s` to `t`. -/
def Reaches (s t : State) : Prop := ∃ n, arbiterRun n s = .ok t

theorem Reaches.refl (s : State) : Reaches s s := ⟨0, rfl⟩

/-- An arbiter step, and the steps after it, are a positive number of steps. -/
theorem Reaches.head_pos {s s' t : State} (h : arbiterStep s = .ok s') (hr : Reaches s' t) :
    ∃ n, 0 < n ∧ arbiterRun n s = .ok t := by
  obtain ⟨n, hn⟩ := hr
  exact ⟨n + 1, Nat.succ_pos n, by simp only [arbiterRun, h, hn]⟩

theorem Reaches.head {s s' t : State} (h : arbiterStep s = .ok s') (hr : Reaches s' t) : Reaches s t := by
  obtain ⟨n, _, hn⟩ := hr.head_pos h
  exact ⟨n, hn⟩

/-! ## A sequence, one request at a time (40_cpu_machine.md R200) -/

/-- The request that an element emits is of the kind its continuation waits on (40_cpu_machine.md R205). -/
theorem Micro.kind_of_request {m : Micro} {s : State} {r : Request} (h : m.request s = some r) :
    m.kind = some r.kind := by
  cases m with
  | setEa _ | setVal _ | setLo _ | pointer _ | act _ => cases h
  | discardIfCrossed p =>
    simp only [Micro.request] at h
    split at h
    · cases h; rfl
    · cases h
  | _ => cases h; rfl

/-- An internal operation takes no arbiter step. -/
theorem emit_internal {m : Micro} {rest : List Micro} {s : State} (h : m.request s = none) :
    emit (m :: rest) s = emit rest (m.after 0 s) := by
  simp only [emit, h]

/-- The CPU's arbiter step, where its request is of the kind waited for: the request is served, and what is
resumed runs to the next request (20_memory.md R103). -/
theorem arbiterStep_of_cpuService {s : State} {r : Resumed} (ht : turn s = .cpu) (h : cpuService s = .ok r) :
    arbiterStep s = .ok r.emit := by
  simp only [arbiterStep_cpu ht, cpuStep, h]

/-- The arbiter step that answers the request of the first element of a sequence. -/
theorem arbiterStep_suspend {m : Micro} {rest : List Micro} {s : State} {r : Request}
    (hk : m.kind = some r.kind) (ht : turn (suspend r (.running (m :: rest)) s) = .cpu) :
    arbiterStep (suspend r (.running (m :: rest)) s) =
      .ok (emit rest (m.after (serve r (suspend r (.running (m :: rest)) s)).1
        (serve r (suspend r (.running (m :: rest)) s)).2)) := by
  have hs : cpuService (suspend r (.running (m :: rest)) s) =
      .ok (.seq rest (m.after (serve r (suspend r (.running (m :: rest)) s)).1
        (serve r (suspend r (.running (m :: rest)) s)).2)) := by
    simp only [cpuService, suspend_req, suspend_cont, Cont.kind, hk, if_pos, cpuResume]
  exact arbiterStep_of_cpuService ht hs

/-- Arbiter steps take a sequence from where it is emitted to where performing it ends. -/
theorem emit_reaches_perform (l : List Micro) (s : State) : Reaches (emit l s) (perform l s) := by
  induction l generalizing s with
  | nil => exact .refl _
  | cons m rest ih =>
    cases hr : m.request s with
    | none =>
      rw [emit_internal hr, perform_internal hr]
      exact ih _
    | some r =>
      rw [emit_request hr]
      by_cases ht : turn (suspend r (.running (m :: rest)) (m.before s)) = .cpu
      · rw [perform_request hr ht]
        exact .head (arbiterStep_suspend (Micro.kind_of_request hr) ht) (ih _)
      · rw [perform_suspend hr ht]
        exact .refl _

/-! ## The CPU's turn -/

/-- An operand fetch is asked for with a request of the kind waited for. -/
theorem fetchOrRun_waits {op : Byte} {got : List Byte} {s s' : State} (h : fetchOrRun op got s = .fetch s') :
    ∃ r, s'.req = some r ∧ s'.cont.kind = some r.kind := by
  simp only [fetchOrRun] at h
  split at h
  · cases h; exact ⟨_, rfl, rfl⟩
  · cases h

/-- When the CPU goes on to another operand fetch, its request is of the kind waited for. -/
theorem cpuService_fetch_waits {s s' : State} (h : cpuService s = .ok (.fetch s')) :
    ∃ r, s'.req = some r ∧ s'.cont.kind = some r.kind := by
  simp only [cpuService] at h
  split at h
  · cases h
  · split at h
    · simp only [Except.ok.injEq] at h
      cases hk : s.cont with
      | boundary =>
        simp only [hk, cpuResume, boundaryResume] at h
        split at h
        · cases h
        · exact fetchOrRun_waits h
      | operands op got =>
        simp only [hk, cpuResume] at h
        exact fetchOrRun_waits h
      | running seq => cases seq <;> simp only [hk, cpuResume] at h <;> cases h
    · cases h

/-- A CPU request of the kind waited for is served. -/
theorem cpuService_of_waits {s : State} {r : Request} (hr : s.req = some r) (hk : s.cont.kind = some r.kind) :
    ∃ q, cpuService s = .ok q := by
  simp only [cpuService, hr, if_pos hk]
  exact ⟨_, rfl⟩

/-- The CPU's turn goes on from what was resumed, without a fault, to where arbiter steps lead, if the rest of
the turn does so from an operand fetch. -/
theorem cpuTurn_succ {fuel : Nat} {s : State} {q : Resumed} (h : cpuService s = .ok q)
    (hrest : ∀ {s' : State} {q' : Resumed}, turn s' = .cpu → cpuService s' = .ok q' →
      ∃ t, cpuTurn fuel s' = .next t ∧ Reaches s' t) :
    ∃ t, cpuTurn (fuel + 1) s = .next t ∧ Reaches q.emit t := by
  simp only [cpuTurn, h]
  cases q with
  | fetch s' =>
    obtain ⟨r, hr, hk⟩ := cpuService_fetch_waits h
    obtain ⟨q', hq'⟩ := cpuService_of_waits hr hk
    by_cases ht : turn s' = .cpu
    · simp only [if_pos ht]
      exact hrest ht hq'
    · exact ⟨s', if_neg ht, .refl s'⟩
  | instr i s' => exact ⟨_, exec_eq_next i s', emit_reaches_perform _ s'⟩
  | seq l s' => exact ⟨_, rfl, emit_reaches_perform l s'⟩

/-- The CPU's turn, from a request that can be served, is some number of arbiter steps. -/
theorem cpuTurn_reaches (fuel : Nat) {s : State} {q : Resumed} (ht : turn s = .cpu) (h : cpuService s = .ok q) :
    ∃ t, cpuTurn fuel s = .next t ∧ Reaches s t := by
  induction fuel generalizing s q with
  | zero => exact ⟨s, rfl, .refl s⟩
  | succ fuel ih =>
    obtain ⟨t, hn, hr⟩ := cpuTurn_succ h ih
    exact ⟨t, hn, .head (arbiterStep_of_cpuService ht h) hr⟩

/-! ## The step -/

/-- A step is its first arbiter step and those that follow it, or the fault of the first. -/
theorem step_of_arbiterStep (s : State) :
    (∀ s', arbiterStep s = .ok s' → ∃ t, step s = .next t ∧ Reaches s' t) ∧
      ∀ f, arbiterStep s = .error f → step s = .fault f := by
  rw [step_of_turn]
  cases ht : turn s with
  | cpu =>
    rw [arbiterStep_cpu ht]
    cases hq : cpuService s with
    | error f => simp [cpuStep, cpuTurn, hq]
    | ok q =>
      obtain ⟨t, hn, hr⟩ := cpuTurn_succ hq (cpuTurn_reaches 2)
      simpa [cpuStep, hq, hn] using hr
  | sprite => cases hs : spriteStep s <;> simp [arbiterStep, ht, hs, outcome, Reaches.refl]
  | event | idle | stuck => simp [arbiterStep, ht, Reaches.refl]

/-- Settles O39: the first arbiter step decides between a fault and a next state, and the steps after it are
those that the CPU's turn takes together. -/
theorem stepIsArbiterSteps : Obligations.StepIsArbiterSteps := by
  have hnext : ∀ s s', arbiterStep s = .ok s' → ∃ t, step s = .next t ∧ Reaches s' t :=
    fun s => (step_of_arbiterStep s).1
  have hfault : ∀ s f, arbiterStep s = .error f → step s = .fault f := fun s => (step_of_arbiterStep s).2
  refine ⟨fun s t h => ?_, fun s f => ⟨fun h => ?_, hfault s f⟩⟩
  · cases ha : arbiterStep s with
    | error f => rw [hfault s f ha] at h; cases h
    | ok s' =>
      obtain ⟨u, hu, hr⟩ := hnext s s' ha
      rw [hu] at h
      cases h
      exact hr.head_pos ha
  · cases ha : arbiterStep s with
    | error g => rw [hfault s g ha] at h; cases h; rfl
    | ok s' =>
      obtain ⟨u, hu, _⟩ := hnext s s' ha
      rw [hu] at h
      cases h

end Sys2Proof.Machine
end

section
/-! Proofs for the family of 20_memory.md: the order and the contents of the event queue (R91, R92), and whose
turn a step is (R100). -/

namespace Sys2Proof.Machine

/-! ## The order of actions (20_memory.md R92) -/

/-- The order of actions is by tick, and by tag at the same tick. -/
theorem Action.le_iff {x y : Action} :
    x.le y = true ↔ x.tick < y.tick ∨ x.tick = y.tick ∧ x.kind.tag ≤ y.kind.tag := by
  simp only [Action.le, Bool.or_eq_true, Bool.and_eq_true, decide_eq_true_eq, beq_iff_eq]

theorem Action.le_trans {x y z : Action} (hxy : x.le y = true) (hyz : y.le z = true) : x.le z = true := by
  rw [Action.le_iff] at *
  omega

/-- The first action of an ordered queue precedes all the others. -/
theorem Queue.le_of_sorted {e x : Action} {q : List Action} (h : Queue.sorted (e :: q) = true) (hx : x ∈ q) :
    e.le x = true := by
  induction q generalizing e with
  | nil => cases hx
  | cons y q ih =>
    obtain ⟨hey, hq⟩ := Queue.sorted_cons_cons.1 h
    cases hx with
    | head => exact hey
    | tail _ hx => exact Action.le_trans hey (ih hq hx)

/-- An insertion adds its action and loses none, equal actions included (20_memory.md R91). -/
theorem insertAction_perm (e : Action) (q : List Action) : (insertAction e q).Perm (e :: q) := by
  induction q with
  | nil => exact .refl _
  | cons x q ih =>
    rw [insertAction]
    split
    · exact (ih.cons x).trans (.swap e x q)
    · exact .refl _

/-- Settles O37: the insertion keeps the order, and the head that `pop` takes is before every other action. -/
theorem queueOrder : Obligations.QueueOrder := by
  refine ⟨fun e q hq => Queue.sorted_insertAction e hq, fun s t e hs hp => ?_⟩
  obtain ⟨hq, ht⟩ := pop_eq_some.1 hp
  rw [hq] at hs
  exact ⟨hq ▸ .refl _, Queue.sorted_tail hs, ht, fun x hx => Action.le_iff.1 (Queue.le_of_sorted hs hx)⟩

/-- Settles O36: the two branches of `push`, the second with the actions that an insertion leaves. -/
theorem pushRule : Obligations.PushRule := by
  intro asked t k s
  exact ⟨fun h => if_pos h, fun h => ⟨_, if_neg (Nat.not_lt.2 h), insertAction_perm _ _⟩⟩

/-! ## Whose turn it is (20_memory.md R100) -/

/-- An action is due when the first of the queue is (20_memory.md R93). -/
theorem due_eq_false_iff {s : State} : due s = false ↔ ∀ e q, s.queue = e :: q → s.now < e.tick := by
  cases hq : s.queue with
  | nil => simp [due, hq]
  | cons e q => simp [due, hq]

theorem turn_event {s : State} (h : due s = true) : turn s = .event := by
  simp only [turn, h, if_pos]

theorem turn_sprite {s : State} (hd : due s = false) (h : spriteActive s = true) : turn s = .sprite := by
  simp only [turn, hd, h, Bool.false_eq_true, if_false, if_true]

/-- With nothing due and neither agent able to step, the queue decides between a jump and the end. -/
theorem turn_idle_or_stuck {s : State} (hd : due s = false) (hs : spriteActive s = false)
    (hr : s.cpuRun ≠ .run) : turn s = if s.queue = [] then .stuck else .idle := by
  simp only [turn, hd, hs, hr, Bool.false_eq_true, if_false]
  cases hq : s.queue <;> simp [peekTick, hq]

/-- Settles O35: the case of `turn`, and then the step of that case. -/
theorem stepPriority : Obligations.StepPriority := by
  refine fun s =>
    ⟨fun e q hq he => ?_, fun hnot => ⟨fun hs => ?_, fun hs hr => ⟨fun e q hq => ?_, fun hq => ?_⟩⟩⟩
  · have hd : due s = true := by simp only [due, hq, he, decide_true]
    simp only [step_of_turn, turn_event hd, drain, pop, hq]
  · simp only [step_of_turn, turn_sprite (due_eq_false_iff.2 hnot) hs]
  · have ht := turn_idle_or_stuck (due_eq_false_iff.2 hnot) hs hr
    rw [hq, if_neg (List.cons_ne_nil e q)] at ht
    simp only [step_of_turn, ht, idleJump, peekTick, hq]
  · have ht := turn_idle_or_stuck (due_eq_false_iff.2 hnot) hs hr
    rw [if_pos hq] at ht
    simp only [step_of_turn, ht]

end Sys2Proof.Machine
end

section
/-! Proofs for the family of 20_memory.md: the region of an address (R81), what the access of a request does to
the rest of the machine (R85, R86, R103), its cost and the predictor (R110, R111). -/

namespace Sys2Proof.Machine

/-! ## The region of an address (20_memory.md R81) -/

/-- The high byte of an address is its page. -/
theorem toNat_hiByte (a : Addr) : (hiByte a).toNat = a.toNat / 256 := by
  have := a.isLt
  simp only [hiByte, BitVec.extractLsb'_toNat, Nat.shiftRight_eq_div_pow]
  omega

/-- The low byte of an address is its offset inside a page that starts at `base`. -/
theorem loByte_eq_ofNat_sub {a : Addr} {base : Nat} (hb : base % 256 = 0) (hle : base ≤ a.toNat) :
    loByte a = BitVec.ofNat 8 (a.toNat - base) := by
  apply BitVec.eq_of_toNat_eq
  simp only [loByte, BitVec.extractLsb'_toNat, BitVec.toNat_ofNat, Nat.shiftRight_zero]
  omega

/-- The address of offset `o` in page `p`. -/
theorem toNat_pair (p o : Byte) : (pair p o).toNat = p.toNat * 256 + o.toNat := by
  rw [pair, BitVec.toNat_append, ← Nat.shiftLeft_add_eq_or_of_lt o.isLt, Nat.shiftLeft_eq]

/-- `regionOf` with every test a comparison of numbers. -/
theorem regionOf_eq (a : Addr) (m : Byte) :
    regionOf a m =
      if a.toNat = 0xFFF9 then .mapctl
      else if a.toNat = 0xFFF8 then .ram
      else if 0xFFFA ≤ a.toNat then (if m.getLsbD 3 then .ram else .rom (a.toNat - 0xFE00))
      else if 0xFE00 ≤ a.toNat then (if m.getLsbD 2 then .ram else .rom (a.toNat - 0xFE00))
      else if a.toNat / 256 = 0xFD then (if m.getLsbD 1 then .ram else .chipB (loByte a))
      else if a.toNat / 256 = 0xFC then (if m.getLsbD 0 then .ram else .chipA (loByte a))
      else .ram := by
  simp only [regionOf, BitVec.le_def, ← BitVec.toNat_inj, toNat_hiByte, BitVec.toNat_ofNat, Nat.reducePow,
    Nat.reduceMod]

/-- Settles O28: the range of the address decides each test of `regionOf`. -/
theorem addressDecoding : Obligations.AddressDecoding := by
  intro a m
  have hlt := a.isLt
  rw [regionOf_eq]
  refine ⟨fun h => ?_, fun h => ?_, fun h => ?_, fun h h' => ?_, fun h h' => ?_, fun h h' => ?_, fun h => ?_⟩
  · rw [if_pos h]
  · rw [if_neg (by omega), if_pos h]
  · rw [if_neg (by omega), if_neg (by omega), if_pos h]
  · rw [if_neg (by omega), if_neg (by omega), if_neg (by omega), if_pos h]
  · iterate 4 rw [if_neg (by omega)]
    rw [if_pos (by omega), loByte_eq_ofNat_sub (by norm_num) h]
  · iterate 5 rw [if_neg (by omega)]
    rw [if_pos (by omega), loByte_eq_ofNat_sub (by norm_num) h]
  · iterate 6 rw [if_neg (by omega)]

/-- Page 0xFD is chip B's while its bit of MAPCTL is clear. -/
theorem regionOf_pageB (o : Byte) {m : Byte} (h : m.getLsbD 1 = false) : regionOf (pair 0xFD o) m = .chipB o := by
  have ho := o.isLt
  have ha : (pair 0xFD o).toNat = 0xFD00 + o.toNat := toNat_pair 0xFD o
  obtain ⟨_, _, _, _, hB, _, _⟩ := addressDecoding (pair 0xFD o) m
  rw [hB (by omega) (by omega), h, ha, Nat.add_sub_cancel_left, BitVec.ofNat_toNat, BitVec.setWidth_eq]
  rfl

/-- Page 0xFC is chip A's while its bit of MAPCTL is clear. -/
theorem regionOf_pageA (o : Byte) {m : Byte} (h : m.getLsbD 0 = false) : regionOf (pair 0xFC o) m = .chipA o := by
  have ho := o.isLt
  have ha : (pair 0xFC o).toNat = 0xFC00 + o.toNat := toNat_pair 0xFC o
  obtain ⟨_, _, _, _, _, hA, _⟩ := addressDecoding (pair 0xFC o) m
  rw [hA (by omega) (by omega), h, ha, Nat.add_sub_cancel_left, BitVec.ofNat_toNat, BitVec.setWidth_eq]
  rfl

/-! ## The ROM overlay (20_memory.md R85) -/

theorem busWrite_rom {a : Addr} {s : State} {i : Nat} (v : Byte) (h : regionOf a s.mapctl = .rom i) :
    busWrite a v s = ramWrite s a v := by
  simp only [busWrite, h]

theorem byteAt_rom {a : Addr} {s : State} {i : Nat} (h : regionOf a s.mapctl = .rom i) :
    byteAt s a = romRead s i := by
  simp only [byteAt, busRead, h]

theorem byteAt_ram {a : Addr} {s : State} (h : regionOf a s.mapctl = .ram) : byteAt s a = ramRead s a := by
  simp only [byteAt, busRead, h]

/-- Settles O29: the write goes to RAM, which the overlay does not read and the machine without it does. -/
theorem romOverlay : Obligations.RomOverlay := by
  intro s a v i hrom hwf
  have hram : ramRead (ramWrite s a v) a = v := by rw [ramRead_ramWrite s a a v hwf, if_pos rfl]
  rw [busWrite_rom v hrom]
  refine ⟨hram, ramWrite_rom s a v, ?_, fun m hm => ?_⟩
  · rw [byteAt_rom hrom, byteAt_rom (s := ramWrite s a v) hrom]
    rfl
  · rw [byteAt_ram (s := { ramWrite s a v with mapctl := m }) hm]
    exact hram

/-! ## What a chip access leaves alone

`withCpu c` replaces the clock and the CPU's own fields by those of `c`. A chip access commutes with it: it
neither changes these fields nor depends on them. -/

/-- The machine `s` with the clock, the registers, and the request under way of `c`. -/
def withCpu (c s : State) : State :=
  { s with now := c.now, regs := c.regs, req := c.req, cont := c.cont, loc := c.loc }

theorem schedule_withCpu (c : State) (n : Fin 12) (T : Timer) (t : Nat) (s : State) :
    schedule n T t (withCpu c s) = withCpu c (schedule n T t s) := by
  simp only [schedule]
  split <;> rfl

theorem storeHigh_withCpu (c : State) (n : Fin 12) (o v : Byte) (s : State) :
    storeHigh n o v (withCpu c s) = withCpu c (storeHigh n o v s) := by
  simp only [storeHigh]
  split <;> rfl

theorem setPending_withCpu (c : State) (t : Nat) (v : Byte) (s : State) :
    setPending t v (withCpu c s) = withCpu c (setPending t v s) := by
  simp only [setPending, show (withCpu c s).intPending = s.intPending from rfl]
  split <;> rfl

theorem flushBoth_withCpu (c : State) (k : AfterFlush) (s : State) :
    flushBoth k (withCpu c s) = withCpu c (flushBoth k s) := by
  simp only [flushBoth, show (withCpu c s).spr = s.spr from rfl]
  split
  · rfl
  · split
    · rfl
    · cases k <;> rfl

theorem walk_withCpu (c s : State) : walk (withCpu c s) = withCpu c (walk s) := by
  simp only [walk, show (withCpu c s).chipA = s.chipA from rfl]
  split
  · exact flushBoth_withCpu c _ s
  · rfl

theorem startRun_withCpu (c s : State) : startRun (withCpu c s) = withCpu c (startRun s) :=
  walk_withCpu c { s with cpuRun := .stalled, spr := { s.spr with st := .walkScbList } }

theorem cpusleepWrite_withCpu (c s : State) : cpusleepWrite (withCpu c s) = withCpu c (cpusleepWrite s) := by
  simp only [cpusleepWrite, show (withCpu c s).chipA = s.chipA from rfl,
    show (withCpu c s).intPending = s.intPending from rfl]
  split
  · exact startRun_withCpu c s
  · split <;> rfl

theorem chipBWrite_withCpu (c : State) (o v : Byte) (t : Nat) (s : State) :
    chipBWrite o v t (withCpu c s) = withCpu c (chipBWrite o v t s) := by
  simp only [chipBWrite]
  cases regB o with
  | backup n | ctla n | count n => exact schedule_withCpu c n _ t s
  | ctlb n =>
    simp only [storeHigh_withCpu]
    exact schedule_withCpu c n _ t _
  | intrst | intset => exact setPending_withCpu c t _ s
  | cpusleep => exact cpusleepWrite_withCpu c s
  | _ => rfl

theorem chipAWrite_withCpu (c : State) (o v : Byte) (s : State) :
    chipAWrite o v (withCpu c s) = withCpu c (chipAWrite o v s) := by
  simp only [chipAWrite]
  cases regA o with
  | low w | high w => cases w <;> rfl
  | _ => rfl

theorem chipBRead_withCpu (c : State) (o : Byte) (t : Nat) (s : State) :
    chipBRead o t (withCpu c s) = ((chipBRead o t s).1, withCpu c (chipBRead o t s).2) := by
  simp only [chipBRead]
  cases regB o <;> rfl

theorem chipARead_withCpu (c : State) (o : Byte) (s : State) :
    chipARead o (withCpu c s) = ((chipARead o s).1, withCpu c (chipARead o s).2) := by
  simp only [chipARead]
  cases regA o with
  | low w | high w => cases w <;> rfl
  | _ => rfl

/-! ## The clock, the cost and the predictor of a request (20_memory.md R103, R110, R111) -/

theorem chipAWrite_now (o v : Byte) (s : State) : (chipAWrite o v s).now = s.now := by
  have h : chipAWrite o v s = withCpu s (chipAWrite o v s) := chipAWrite_withCpu s o v s
  rw [h]
  rfl

theorem chipBWrite_now (o v : Byte) (t : Nat) (s : State) : (chipBWrite o v t s).now = s.now := by
  have h : chipBWrite o v t s = withCpu s (chipBWrite o v t s) := chipBWrite_withCpu s o v t s
  rw [h]
  rfl

theorem chipARead_now (o : Byte) (s : State) : (chipARead o s).2.now = s.now :=
  congrArg (fun q => q.2.now) (chipARead_withCpu s o s)

theorem chipBRead_now (o : Byte) (t : Nat) (s : State) : (chipBRead o t s).2.now = s.now :=
  congrArg (fun q => q.2.now) (chipBRead_withCpu s o t s)

theorem busRead_now (a : Addr) (s : State) : (busRead a s).2.now = s.now := by
  simp only [busRead]
  cases regionOf a s.mapctl with
  | chipA o => exact chipARead_now o s
  | chipB o => exact chipBRead_now o s.now s
  | _ => rfl

theorem busWrite_now (a : Addr) (v : Byte) (s : State) : (busWrite a v s).now = s.now := by
  simp only [busWrite]
  cases regionOf a s.mapctl with
  | chipA o => exact chipAWrite_now o v s
  | chipB o => exact chipBWrite_now o v s.now s
  | _ => rfl

/-- The access of a request takes no time: its cost is charged apart. -/
theorem access_now (r : Request) (s : State) : (access r s).2.now = s.now := by
  simp only [access]
  split
  · exact busWrite_now r.addr r.value s
  · exact busRead_now r.addr s

/-- The cost of a request to RAM or ROM. -/
theorem cost_of_isMemory {r : Request} {s : State} (h : (regionOf r.addr s.mapctl).isMemory = true) :
    cost r s =
      if r.kind = .write then Config.slowCost
      else if s.mapctl.getLsbD 7 = false ∧ s.seqNext = some r.addr then Config.fastCost
      else Config.slowCost := by
  have hm : cost r s = cost.memoryCost r s := by
    simp only [cost]
    cases hr : regionOf r.addr s.mapctl <;> simp_all [Region.isMemory]
  simp only [hm, cost.memoryCost, Bool.and_eq_true, Bool.not_eq_true', beq_iff_eq]

theorem predict_eq (r : Request) (m : Byte) :
    predict r m =
      if (regionOf r.addr m).isMemory = true ∧ r.kind ≠ .write then some (r.addr + 1) else none := by
  simp only [predict, Bool.and_eq_true, bne_iff_ne]

/-- A burst charges its cost, clears the predictor, and beside that works on the display and the queue alone
(20_memory.md R96, R111). -/
theorem dmaBurst_frame (t : Nat) (s : State) :
    dmaBurst t s =
      { s with
        display := (dmaBurst t s).display, queue := (dmaBurst t s).queue
        now := s.now + Config.dmaBurstCost, seqNext := none } := by
  simp only [dmaBurst, pushData]
  split
  · rfl
  · split
    · split <;> rfl
    · rfl

/-- Settles O30: the cost and the predictor by the region of the request. -/
theorem costAndPredictor : Obligations.CostAndPredictor := by
  have hfast : 0 < Config.fastCost := Nat.succ_pos _
  have hslow : Config.fastCost < Config.slowCost := by simp only [Config.slowCost]; omega
  refine ⟨fun r s => ⟨fun o h => ?_, fun o h => ?_, fun h => ?_, cost_of_isMemory, ?_, predict_eq r s.mapctl⟩,
    fun t s => by rw [dmaBurst_frame], fun s => ⟨rfl, rfl⟩, rfl, hfast, hslow, fun c k a => Nat.succ_pos _⟩
  · simp only [cost, h]
  · simp only [cost, h]
  · simp only [cost, h]
  · simp only [serve, access_now]

/-! ## STA and LDA on a chip page (20_memory.md R86, R103) -/

/-- A request that reaches a chip register, or MAPCTL, leaves no prediction. -/
theorem serve_register {r : Request} {s : State} (h : (regionOf r.addr s.mapctl).isMemory = false) :
    serve r s =
      ((access r s).1, { (access r s).2 with seqNext := none, now := s.now + cost r s }) := by
  simp only [serve, access_now, predict, h, Bool.false_and, Bool.false_eq_true, if_false]

/-- The state in which STA absolute asks for its write. -/
def storing (a : Addr) (s : State) : State :=
  suspend (writeReq a s.regs.a) (.running [.write .ea s.regs.a]) { s with loc := { s.loc with ea := a } }

/-- The state in which LDA absolute asks for its read. -/
def loading (a : Addr) (s : State) : State :=
  suspend (readReq a) (.running [.read .ea .val, .act (.load .a)]) { s with loc := { s.loc with ea := a } }

/-- STA absolute is one write, made on the CPU's turn. -/
theorem exec_staAbs_of_turn {s : State} (a : Addr) (ht : turn s = .cpu) :
    exec (.staAbs a) s = .next (retire (serve (writeReq a s.regs.a) (storing a s)).2) := by
  have hp : program (.staAbs a) s.regs = [.setEa a, .write .ea s.regs.a] := rfl
  rw [exec_eq_next, hp, perform_internal rfl]
  exact congrArg _ (perform_request (r := writeReq a s.regs.a) rfl ht)

/-- LDA absolute is one read, made on the CPU's turn, and the load of A. -/
theorem exec_ldaAbs_of_turn {s : State} (a : Addr) (ht : turn s = .cpu) :
    exec (.ldaAbs a) s =
      let q := serve (readReq a) (loading a s)
      .next (retire { q.2 with loc := { q.2.loc with val := q.1 }, regs := q.2.regs.load .a q.1 }) := by
  have hp : program (.ldaAbs a) s.regs = [.setEa a, .read .ea .val, .act (.load .a)] := rfl
  rw [exec_eq_next, hp, perform_internal rfl]
  exact congrArg _ (perform_request (r := readReq a) rfl ht)

theorem setNZ_eq_withNZ (p : Flags) (v : Byte) : setNZ p v = withNZ p v := by
  simp only [setNZ, withNZ, BitVec.msb_eq_getLsbD_last, beq_eq_decide]

/-- STA absolute where the write is a chip register's: `f` is that write and `n` its cost. -/
theorem exec_staAbs_chip {s : State} {a : Addr} {f : State → State} {n : Nat} (ht : turn s = .cpu)
    (hm : (regionOf a s.mapctl).isMemory = false) (hn : cost (writeReq a s.regs.a) (storing a s) = n)
    (hw : busWrite a s.regs.a (storing a s) = f (storing a s))
    (hf : ∀ c u, f (withCpu c u) = withCpu c (f u)) :
    exec (.staAbs a) s =
      .next
        { f s with
          req := some { kind := .fetchOpcode, addr := s.regs.pc, value := 0 }, cont := .boundary
          loc := Locals.clear, seqNext := none, now := s.now + n } := by
  have ha : (access (writeReq a s.regs.a) (storing a s)).2 = withCpu (storing a s) (f s) := by
    rw [← hf]
    exact hw
  have hs : f s = withCpu s (f s) := hf s s
  rw [exec_staAbs_of_turn a ht, serve_register hm, hn, ha, hs]
  rfl

/-- LDA absolute where the read is a chip register's: `f` is that read and `n` its cost. -/
theorem exec_ldaAbs_chip {s : State} {a : Addr} {f : State → Byte × State} {n : Nat} (ht : turn s = .cpu)
    (hm : (regionOf a s.mapctl).isMemory = false) (hn : cost (readReq a) (loading a s) = n)
    (hr : busRead a (loading a s) = f (loading a s))
    (hf : ∀ c u, f (withCpu c u) = ((f u).1, withCpu c (f u).2)) :
    exec (.ldaAbs a) s =
      .next
        { (f s).2 with
          regs := { s.regs with a := (f s).1, p := withNZ s.regs.p (f s).1 }
          req := some { kind := .fetchOpcode, addr := s.regs.pc, value := 0 }, cont := .boundary
          loc := Locals.clear, seqNext := none, now := s.now + n } := by
  have ha : access (readReq a) (loading a s) = ((f s).1, withCpu (loading a s) (f s).2) := by
    rw [← hf]
    exact hr
  rw [exec_ldaAbs_of_turn a ht, serve_register hm, hn, ha, ← setNZ_eq_withNZ]
  rfl

/-- Settles O31: the write of the region that stands at the address. -/
theorem chipStores : Obligations.ChipStores := by
  refine fun s o ht => ⟨fun hB => ?_, fun hA => ?_⟩
  · have hr := regionOf_pageB o hB
    have hr' : regionOf (pair 0xFD o) (storing (pair 0xFD o) s).mapctl = .chipB o := hr
    refine exec_staAbs_chip (f := chipBWrite o s.regs.a s.now) ht (by rw [hr]; rfl) ?_ ?_
      fun c u => chipBWrite_withCpu c o _ _ u
    · simp only [cost, writeReq, hr']
    · simp only [busWrite, hr']; rfl
  · have hr := regionOf_pageA o hA
    have hr' : regionOf (pair 0xFC o) (storing (pair 0xFC o) s).mapctl = .chipA o := hr
    refine exec_staAbs_chip (f := chipAWrite o s.regs.a) ht (by rw [hr]; rfl) ?_ ?_
      fun c u => chipAWrite_withCpu c o _ u
    · simp only [cost, writeReq, hr']
    · simp only [busWrite, hr']

/-- Settles O32: the read of the region that stands at the address. -/
theorem chipLoads : Obligations.ChipLoads := by
  refine fun s o ht => ⟨fun hB => ?_, fun hA => ?_⟩
  · have hr := regionOf_pageB o hB
    have hr' : regionOf (pair 0xFD o) (loading (pair 0xFD o) s).mapctl = .chipB o := hr
    refine exec_ldaAbs_chip (f := chipBRead o s.now) ht (by rw [hr]; rfl) ?_ ?_
      fun c u => chipBRead_withCpu c o _ u
    · simp only [cost, readReq, hr']
    · simp only [busRead, hr']; rfl
  · have hr := regionOf_pageA o hA
    have hr' : regionOf (pair 0xFC o) (loading (pair 0xFC o) s).mapctl = .chipA o := hr
    refine exec_ldaAbs_chip (f := chipARead o) ht (by rw [hr]; rfl) ?_ ?_
      fun c u => chipARead_withCpu c o u
    · simp only [cost, readReq, hr']
    · simp only [busRead, hr']

end Sys2Proof.Machine
end

section
/-! Proofs for the family of 20_memory.md: the two agents that reach RAM directly, a DMA burst (R96) and a sprite
step (R102). -/

namespace Sys2Proof.Machine

/-! ## A DMA burst (60_exceptions.md R514) -/

/-- The bytes of a direct read of RAM, in order (20_memory.md R96). -/
theorem ramReads_getElem? (s : State) (a : Addr) {n k : Nat} (hk : k < n) :
    (ramReads s a n)[k]? = some (ramRead s (a + BitVec.ofNat 16 k)) := by
  induction n generalizing a k with
  | zero => omega
  | succ n ih =>
    cases k with
    | zero => simp [ramReads]
    | succ k =>
      have ha : a + 1 + BitVec.ofNat 16 k = a + BitVec.ofNat 16 (k + 1) := by
        rw [BitVec.add_assoc, Nat.add_comm k 1, BitVec.ofNat_add]
        rfl
      rw [ramReads, List.getElem?_cons_succ, ih (a + 1) (by omega), ha]

@[simp] theorem ramReads_length (s : State) (a : Addr) (n : Nat) : (ramReads s a n).length = n := by
  induction n generalizing a with
  | zero => rfl
  | succ n ih => rw [ramReads, List.length_cons, ih]

/-- Storing bytes at `i` leaves the places outside them alone. -/
theorem storeBytes_getElem?_outside (v : Vector Byte 80) {i k : Nat} {bs : List Byte}
    (h : k < i ∨ i + bs.length ≤ k) : (storeBytes v i bs)[k]? = v[k]? := by
  induction bs generalizing v i with
  | nil => rfl
  | cons b bs ih =>
    rw [List.length_cons] at h
    rw [storeBytes, ih _ (by omega), Vector.getElem?_setIfInBounds_ne (by omega)]

/-- Bytes stored inside the line stand at their places. -/
theorem storeBytes_getElem? (v : Vector Byte 80) {i k : Nat} {bs : List Byte} (hk : k < bs.length)
    (hi : i + bs.length ≤ 80) : (storeBytes v i bs)[i + k]? = bs[k]? := by
  induction bs generalizing v i k with
  | nil => cases hk
  | cons b bs ih =>
    rw [List.length_cons] at hk hi
    rw [storeBytes]
    cases k with
    | zero =>
      rw [storeBytes_getElem?_outside _ (by omega), Nat.add_zero, Vector.getElem?_setIfInBounds_self_of_lt (by omega)]
      rfl
    | succ k =>
      rw [← Nat.add_assoc, Nat.add_right_comm, ih _ (by omega) (by omega), List.getElem?_cons_succ]

/-- With no row open the bytes of a burst are dropped. -/
theorem dmaBurst_no_row {s : State} (t : Nat) (h : s.display.row = none) :
    dmaBurst t s = { s with now := s.now + Config.dmaBurstCost, seqNext := none } := by
  simp only [dmaBurst, pushData, h]

/-- A burst into an open row that has fewer than ten. -/
theorem dmaBurst_open_row {s : State} (t : Nat) (h : s.display.row ≠ none) (hb : s.display.burst < 10) :
    dmaBurst t s =
      { s with
        now := s.now + Config.dmaBurstCost
        seqNext := none
        display :=
          { s.display with
            lineBytes := storeBytes s.display.lineBytes (8 * s.display.burst) (ramReads s s.display.dmaAddr 8)
            burstTick := s.display.burstTick.setIfInBounds s.display.burst t
            burst := s.display.burst + 1
            dmaAddr := s.display.dmaAddr + 8 }
        queue :=
          if s.display.burst + 1 < 10 then
            insertAction { tick := t + Config.dmaBurstInterval, kind := .dma } s.queue
          else s.queue } := by
  obtain ⟨r, hr⟩ := Option.ne_none_iff_exists'.1 h
  simp only [dmaBurst, pushData, hr, if_pos hb]
  split <;> rfl

/-- Settles O50: the burst as a whole, and where its eight bytes stand in the line. -/
theorem burstStoresBytes : Obligations.BurstStoresBytes := by
  intro s t
  refine ⟨by rw [dmaBurst_frame], by rw [dmaBurst_frame], by rw [dmaBurst_frame], fun h => ?_, fun h hb => ?_⟩
  · rw [dmaBurst_no_row t h]
    exact ⟨rfl, rfl⟩
  · rw [dmaBurst_open_row t h hb]
    refine ⟨rfl, rfl, rfl, Vector.getElem?_setIfInBounds_self_of_lt hb, fun k hk => ?_, fun k hk => ?_, rfl⟩
    · have hlen : 8 * s.display.burst + (ramReads s s.display.dmaAddr 8).length ≤ 80 := by
        rw [ramReads_length]
        omega
      exact (storeBytes_getElem? _ (by rwa [ramReads_length]) hlen).trans (ramReads_getElem? s _ hk)
    · exact storeBytes_getElem?_outside _ (by rwa [ramReads_length])

/-! ## A sprite step (20_memory.md R102) -/

/-- The engine, resumed, emits its next request and leaves RAM alone. -/
theorem sprResume_ram (bytes : List Byte) (s : State) : (sprResume bytes s).ram = s.ram := by
  have h := sprResume_onlySprite bytes s
  unfold OnlySprite at h
  rw [h]

/-- A byte of RAM replaced by `f` of itself, on a machine that has the RAM of `s`. -/
theorem ramRead_ramWrite_update {s u : State} (a b : Addr) (f : Byte → Byte) (hu : u.ram = s.ram)
    (hwf : Memory.wf 65536 s.ram = true) :
    ramRead (ramWrite u a (f (ramRead s a))) b = if b = a then f (ramRead s b) else ramRead s b := by
  have hb : ramRead u b = ramRead s b := by rw [ramRead, hu, ramRead]
  rw [ramRead_ramWrite u a b _ (hu ▸ hwf), hb]
  split
  · next h => rw [h]
  · rfl

/-- The RAM that the service of a request leaves: one byte, as the kind of the request says. -/
theorem ramRead_sprService (src : DepoSource) (r : SprReq) {s : State} (hwf : Memory.wf 65536 s.ram = true)
    (b : Addr) :
    ramRead (sprService src r s).2 b =
      if b = r.addr then (sprWritten r (ramRead s b)).getD (ramRead s b) else ramRead s b := by
  simp only [sprService, sprWritten]
  cases r.kind with
  | finish | readByte | read4Bytes => exact (ite_self _).symm
  | writeByte => exact ramRead_ramWrite_update r.addr b (fun _ => r.data) rfl hwf
  | collRmw => exact ramRead_ramWrite_update r.addr b (rmwByte .collRmw · r.mask r.data) rfl hwf
  | videoRmw => exact ramRead_ramWrite_update r.addr b (rmwByte .videoRmw · r.mask r.data) rfl hwf
  | xorRmw => exact ramRead_ramWrite_update r.addr b (rmwByte .xorRmw · r.mask r.data) rfl hwf

/-- Settles O54: the service of the request writes, and the resumption does not. -/
theorem spriteStepWrites : Obligations.SpriteStepWrites := by
  intro s t r hwf hreq hstep b
  obtain ⟨r', hreq', _, rfl⟩ := spriteStep_ok hstep
  obtain rfl : r = r' := Option.some.inj (hreq.symm.trans hreq')
  rw [← ramRead_sprService Config.depoSource r hwf b]
  simp only [ramRead, sprResume_ram]

end Sys2Proof.Machine
end

section
/-! Proofs for the family of 30_encoding.md: the decoder and the encoder are inverse to each other (R160, R167,
R168). The two facts that turn on the opcode map are stated once, one over the opcode bytes (`decodeOp_encodedBy`)
and one over the instructions (`exists_opcode_makes`); the rest follows the three formats. -/

namespace Sys2Proof

open Sys2Proof.Machine (pair loByte hiByte)

/-! ## The bytes of a 16-bit operand (R160) -/

@[simp] theorem loByte_pair (hi lo : Byte) : loByte (pair hi lo) = lo :=
  BitVec.extractLsb'_append_eq_right

@[simp] theorem hiByte_pair (hi lo : Byte) : hiByte (pair hi lo) = hi := by
  apply BitVec.eq_of_toNat_eq
  rw [Machine.toNat_hiByte, Machine.toNat_pair]
  have := lo.isLt
  omega

@[simp] theorem pair_hiByte_loByte (a : Addr) : pair (hiByte a) (loByte a) = a := by
  apply BitVec.eq_of_toNat_eq
  rw [Machine.toNat_pair, Machine.toNat_hiByte, loByte, BitVec.extractLsb'_toNat, Nat.shiftRight_zero]
  omega

/-! ## The opcode map, by opcode byte and by instruction (R167) -/

/-- The instructions of the form are encoded as the opcode byte `op` and the operand's bytes (R160). -/
inductive OpForm.EncodedBy (op : Byte) : OpForm → Prop
  | f1 {i : Instr} (h : encode i = [op]) : EncodedBy op (.f1 i)
  | f2 {mk : Byte → Instr} (h : ∀ b, encode (mk b) = [op, b]) : EncodedBy op (.f2 mk)
  | f3 {mk : Addr → Instr} (h : ∀ a, encode (mk a) = [op, loByte a, hiByte a]) : EncodedBy op (.f3 mk)

/-- The form gives the instruction for some operand. -/
inductive OpForm.Makes : OpForm → Instr → Prop
  | f1 (i : Instr) : Makes (.f1 i) i
  | f2 (mk : Byte → Instr) (b : Byte) : Makes (.f2 mk) (mk b)
  | f3 (mk : Addr → Instr) (a : Addr) : Makes (.f3 mk) (mk a)

/-- The map puts at every opcode byte the instructions that `encode` begins with that byte. -/
theorem decodeOp_encodedBy (op : Byte) : (decodeOp op).EncodedBy op := by
  obtain ⟨n, hn, rfl⟩ : ∃ n < 256, op = BitVec.ofNat 8 n := ⟨op.toNat, op.isLt, by simp⟩
  interval_cases n <;> constructor <;> intros <;> rfl

/-- The map has a place for every instruction: that of the first byte of its encoding. -/
theorem exists_opcode_makes (i : Instr) : ∃ op, (decodeOp op).Makes i := by
  refine ⟨(encode i).headD 0, ?_⟩
  cases i <;> simp only [encode, List.headD_cons] <;> constructor

/-- The columns of the map fix the length of an instruction (R160). -/
theorem opLength_eq (op : Byte) : opLength op = (decodeOp op).operandBytes + 1 := by
  revert op
  decide

/-! ## Decoding, format by format (R160) -/

section
variable {op : Byte}

theorem decode_f1 {i : Instr} (h : decodeOp op = .f1 i) (rest : List Byte) :
    decode (op :: rest) = .ok (i, rest) := by
  simp only [decode, h]

theorem decode_f2 {mk : Byte → Instr} (h : decodeOp op = .f2 mk) (b : Byte) (rest : List Byte) :
    decode (op :: b :: rest) = .ok (mk b, rest) := by
  simp only [decode, h]

theorem decode_f2_missing {mk : Byte → Instr} (h : decodeOp op = .f2 mk) :
    decode [op] = .error .missingOperand := by
  simp only [decode, h]

theorem decode_f3 {mk : Addr → Instr} (h : decodeOp op = .f3 mk) (lo hi : Byte) (rest : List Byte) :
    decode (op :: lo :: hi :: rest) = .ok (mk (pair hi lo), rest) := by
  simp only [decode, h]

theorem decode_f3_missing {mk : Addr → Instr} (h : decodeOp op = .f3 mk) :
    decode [op] = .error .missingOperand ∧ ∀ b, decode [op, b] = .error .missingOperand := by
  simp only [decode, h, implies_true, and_self]

end

/-! ## Decoding is the inverse of encoding -/

/-- Settles O1: the opcode that makes the instruction is the one it is encoded with, and each format reads its
operand back. -/
theorem decodeInvertsEncode : Obligations.DecodeInvertsEncode := by
  intro i rest
  obtain ⟨op, hmakes⟩ := exists_opcode_makes i
  have henc := decodeOp_encodedBy op
  generalize hform : decodeOp op = form at hmakes henc
  cases hmakes with
  | f1 i =>
    obtain ⟨h⟩ := henc
    rw [h]
    exact decode_f1 hform rest
  | f2 mk b =>
    obtain _ | h := henc
    rw [h]
    exact decode_f2 hform b rest
  | f3 mk a =>
    obtain _ | _ | h := henc
    rw [h]
    have hdec := decode_f3 hform (loByte a) (hiByte a) rest
    rwa [pair_hiByte_loByte] at hdec

/-- Every decoding used exactly the bytes of the instruction it gave. -/
theorem encode_append_of_decode {bs rest : List Byte} {i : Instr} (h : decode bs = .ok (i, rest)) :
    encode i ++ rest = bs := by
  cases bs with
  | nil => cases h
  | cons op tail =>
    have henc := decodeOp_encodedBy op
    generalize hform : decodeOp op = form at henc
    cases henc with
    | f1 henc =>
      cases (decode_f1 hform tail).symm.trans h
      rw [henc]
      rfl
    | f2 henc =>
      match tail with
      | [] => cases (decode_f2_missing hform).symm.trans h
      | b :: tail =>
        cases (decode_f2 hform b tail).symm.trans h
        rw [henc]
        rfl
    | f3 henc =>
      match tail with
      | [] => cases (decode_f3_missing hform).1.symm.trans h
      | [b] => cases ((decode_f3_missing hform).2 b).symm.trans h
      | lo :: hi :: tail =>
        cases (decode_f3 hform lo hi tail).symm.trans h
        rw [henc, loByte_pair, hiByte_pair]
        rfl

/-- Settles O2: exactness is `encode_append_of_decode`, and what is left over or missing follows the format. -/
theorem decodingIsTotalAndExact : Obligations.DecodingIsTotalAndExact := by
  refine ⟨fun _ _ _ => encode_append_of_decode, fun op b₁ b₂ => ?_⟩
  rw [opLength_eq op]
  cases hform : decodeOp op with
  | f1 i =>
    exact ⟨⟨i, decode_f1 hform [b₁, b₂]⟩, fun h => absurd h (by decide : ¬ 1 < 1),
      fun h => absurd h (by decide : ¬ 2 < 1), rfl⟩
  | f2 mk =>
    exact ⟨⟨mk b₁, decode_f2 hform b₁ [b₂]⟩, fun _ => decode_f2_missing hform,
      fun h => absurd h (by decide : ¬ 2 < 2), rfl⟩
  | f3 mk =>
    obtain ⟨hnone, hone⟩ := decode_f3_missing hform
    exact ⟨⟨mk (pair b₂ b₁), decode_f3 hform b₁ b₂ []⟩, fun _ => hnone, fun _ => hone b₁, rfl⟩

/-! ## Words of the opcode map (R167) -/

/-- A word whose bytes begin with the encoding of an instruction is decoded to it. -/
theorem decodeTableWord_of_encode {nbits w : Nat} {i : Instr} (h : encode i <+: tableBytes nbits w) :
    decodeTableWord nbits w = some i := by
  obtain ⟨rest, hrest⟩ := h
  rw [decodeTableWord, ← hrest, decodeInvertsEncode]

/-- Settles O3: each word's bytes begin with the encoding of its instruction. -/
theorem wordsDecode : Obligations.WordsDecode := by
  refine ⟨?_, ?_, ?_, ?_, ?_, ?_, ?_, ?_, ?_, ?_, ?_, ?_, ?_, ?_, ?_, ?_, ?_⟩ <;>
    exact decodeTableWord_of_encode (by decide)

end Sys2Proof
end

section
/-! Proofs for the family of 40_cpu_machine.md: the request protocol of the two agents that share the bus, the CPU
(R200, R216) and the sprite engine (60_exceptions.md R531), and when a step stops (R215). -/

namespace Sys2Proof.Machine

/-! ## Whose turn it is (20_memory.md R100) -/

/-- Whose turn it is, with the conditions that make it so (20_memory.md R100). -/
theorem turn_cases (s : State) :
    due s = true ∧ turn s = .event ∨
      due s = false ∧ spriteActive s = true ∧ turn s = .sprite ∨
      due s = false ∧ spriteActive s = false ∧ s.cpuRun = .run ∧ turn s = .cpu ∨
      due s = false ∧ spriteActive s = false ∧ s.cpuRun ≠ .run ∧
        turn s = if s.queue = [] then .stuck else .idle := by
  cases hd : due s with
  | true => exact .inl ⟨rfl, turn_event hd⟩
  | false =>
    cases hs : spriteActive s with
    | true => exact .inr (.inl ⟨rfl, rfl, turn_sprite hd hs⟩)
    | false =>
      by_cases hr : s.cpuRun = .run
      · exact .inr (.inr (.inl ⟨rfl, rfl, hr, by simp [turn, hd, hs, hr]⟩))
      · exact .inr (.inr (.inr ⟨rfl, rfl, hr, turn_idle_or_stuck hd hs hr⟩))

theorem turn_eq_cpu_iff {s : State} :
    turn s = .cpu ↔ due s = false ∧ spriteActive s = false ∧ s.cpuRun = .run := by
  rcases turn_cases s with ⟨hd, ht⟩ | ⟨hd, hs, ht⟩ | ⟨hd, hs, hr, ht⟩ | ⟨hd, hs, hr, ht⟩
  · simp [hd, ht]
  · simp [hs, ht]
  · simp [hd, hs, hr, ht]
  · rw [ht]; split <;> simp [hr]

theorem turn_eq_sprite_iff {s : State} : turn s = .sprite ↔ due s = false ∧ spriteActive s = true := by
  rcases turn_cases s with ⟨hd, ht⟩ | ⟨hd, hs, ht⟩ | ⟨hd, hs, hr, ht⟩ | ⟨hd, hs, hr, ht⟩
  · simp [hd, ht]
  · simp [hd, hs, ht]
  · simp [hs, ht]
  · rw [ht]; split <;> simp [hs]

/-- The machine has no step when nothing is scheduled and neither agent may go on (20_memory.md R107). -/
theorem turn_eq_stuck_iff {s : State} :
    turn s = .stuck ↔ s.queue = [] ∧ spriteActive s = false ∧ s.cpuRun ≠ .run := by
  rcases turn_cases s with ⟨hd, ht⟩ | ⟨hd, hs, ht⟩ | ⟨hd, hs, hr, ht⟩ | ⟨hd, hs, hr, ht⟩
  · have hq : s.queue ≠ [] := fun hq => by simp [due, hq] at hd
    simp [ht, hq]
  · simp [hs, ht]
  · simp [hr, ht]
  · rw [ht]; split <;> simp [*]

/-! ## The sprite engine's side (60_exceptions.md R531) -/

/-- The sprite engine owns the bus, and the CPU is stalled. -/
def InSpriteRun (s : State) : Prop := s.cpuRun = .stalled ∧ spriteActive s = true

/-- In a sprite run, the engine is suspended on a request of a kind its continuation point waits on. -/
def SpriteAsks (s : State) : Prop :=
  InSpriteRun s ∧ ∃ r, s.spr.req = some r ∧ s.spr.cont.awaits r.kind = true

/-- The two agents share the bus: the engine has its request while it owns the bus, and the CPU is stalled exactly
then. -/
def BusShared (s : State) : Prop := SpriteWaits s ∧ StalledWhileSprite s

theorem SpriteAsks.busShared {s : State} (h : SpriteAsks s) : BusShared s :=
  ⟨fun _ => h.2, iff_of_true h.1.1 h.1.2⟩

theorem BusShared.of_inactive {s : State} (hs : spriteActive s = false) (hr : s.cpuRun ≠ .stalled) :
    BusShared s := by
  have hn : ¬ spriteActive s = true := by simp [hs]
  exact ⟨fun h => absurd h hn, iff_of_false hr hn⟩

theorem BusShared.congr {s t : State} (h : BusShared s) (hs : t.spr = s.spr) (hr : t.cpuRun = s.cpuRun) :
    BusShared t := by
  simpa only [BusShared, SpriteWaits, StalledWhileSprite, spriteActive, hs, hr] using h

theorem sprEmit_asks {r : SprReq} {k : SprCont} {s : State} (h : InSpriteRun s) (hk : k.awaits r.kind = true) :
    SpriteAsks (sprEmit r k s) :=
  ⟨h, r, rfl, hk⟩

theorem flushColl_asks {k : SprCont} {s : State} (h : InSpriteRun s) (hk : k.awaits .collRmw = true) :
    SpriteAsks (flushColl k s) :=
  sprEmit_asks (s := { s with spr := { s.spr with coll := { s.spr.coll with mask := 0 } } }) h hk

/-- A video flush is one of three kinds of request (60_exceptions.md R535). -/
theorem videoFlushKind_cases (ty : BitVec 3) (m : Byte) :
    videoFlushKind ty m = .xorRmw ∨ videoFlushKind ty m = .writeByte ∨ videoFlushKind ty m = .videoRmw := by
  simp only [videoFlushKind]
  split
  · exact .inl rfl
  · split
    · exact .inr (.inl rfl)
    · exact .inr (.inr rfl)

theorem flushVideo_asks {k : SprCont} {s : State} (h : InSpriteRun s)
    (hx : k.awaits .xorRmw = true) (hw : k.awaits .writeByte = true) (hv : k.awaits .videoRmw = true) :
    SpriteAsks (flushVideo k s) := by
  refine sprEmit_asks (s := { s with spr := { s.spr with video := { s.spr.video with mask := 0 } } }) h ?_
  dsimp only
  rcases videoFlushKind_cases (sprType s) s.spr.video.mask with hk | hk | hk
  · rw [hk, hx]
  · rw [hk, hw]
  · rw [hk, hv]

theorem readOffset_asks {s : State} (h : InSpriteRun s) : SpriteAsks (readOffset s) := sprEmit_asks h rfl

theorem flushBoth_asks (k : AfterFlush) {s : State} (h : InSpriteRun s) : SpriteAsks (flushBoth k s) := by
  simp only [flushBoth]
  split
  · exact flushColl_asks h rfl
  · split
    · exact flushVideo_asks h rfl rfl rfl
    · cases k <;> exact sprEmit_asks h rfl

theorem drawPixels_asks (ps : List Pixel) {s : State} (h : InSpriteRun s) : SpriteAsks (drawPixels ps s) := by
  induction ps generalizing s with
  | nil => exact flushBoth_asks _ h
  | cons p ps ih =>
    rw [drawPixels]
    split
    · exact flushColl_asks h rfl
    · have hc : InSpriteRun (if collides s p.c then addColl Config.depoSource p s else s) := by
        split <;> exact h
      generalize (if collides s p.c then addColl Config.depoSource p s else s) = s₁ at hc
      dsimp only
      split
      · exact flushVideo_asks hc rfl rfl rfl
      · refine ih ?_
        split <;> exact hc

theorem lineData_asks (todo : List (Addr × Bool)) {s : State} (h : InSpriteRun s) :
    SpriteAsks (lineData todo s) := by
  cases todo with
  | nil => exact drawPixels_asks _ h
  | cons q todo => exact sprEmit_asks h (beq_self_eq_true (dataReq q).kind)

theorem walk_asks {s : State} (h : InSpriteRun s) : SpriteAsks (walk s) := by
  simp only [walk]
  split
  · exact flushBoth_asks _ h
  · exact sprEmit_asks ⟨h.1, rfl⟩ rfl

theorem walkAgain_asks {s : State} (h : s.cpuRun = .stalled) : SpriteAsks (walkAgain s) := walk_asks ⟨h, rfl⟩

theorem startRun_asks (s : State) : SpriteAsks (startRun s) := walkAgain_asks rfl

theorem loadBody_asks (todo : List (ScbDst × Addr)) {s : State} (h : InSpriteRun s) :
    SpriteAsks (loadBody todo s) := by
  cases todo with
  | nil => exact readOffset_asks ⟨h.1, rfl⟩
  | cons q todo => exact sprEmit_asks h (beq_self_eq_true (scbReq q).kind)

theorem loadHead_asks (todo : List (ScbDst × Addr)) {s : State} (h : InSpriteRun s) :
    SpriteAsks (loadHead todo s) := by
  cases todo with
  | nil =>
    simp only [loadHead]
    split
    · exact walk_asks h
    · exact loadBody_asks _ h
  | cons q todo => exact sprEmit_asks h (beq_self_eq_true (scbReq q).kind)

theorem endSprite_asks {s : State} (h : InSpriteRun s) : SpriteAsks (endSprite s) := by
  simp only [endSprite]
  split
  · exact sprEmit_asks h rfl
  · exact walkAgain_asks h.1

theorem lineOffset_asks (o : Byte) {s : State} (h : InSpriteRun s) : SpriteAsks (lineOffset o s) := by
  simp only [lineOffset]
  split
  · exact endSprite_asks h
  · split
    · split
      · exact readOffset_asks h
      · exact endSprite_asks h
    · exact lineData_asks _ h

theorem scbStore_inSpriteRun (d : ScbDst) (bytes : List Byte) {s : State} (h : InSpriteRun s) :
    InSpriteRun (scbStore d bytes s) := by
  cases d <;> exact h

/-- Resumed from a request it waited for, the engine asks for its next one, or gives the bus back at FINISH
(60_exceptions.md R531, R533). -/
theorem sprResume_busShared (bytes : List Byte) {s : State} {k : SprKind} (h : InSpriteRun s)
    (hk : s.spr.cont.awaits k = true) : BusShared (sprResume bytes s) := by
  simp only [sprResume]
  split
  case h_1 hc | h_2 hc | h_4 hc => simp [hc, SprCont.awaits] at hk
  case h_3 => exact (loadHead_asks _ (scbStore_inSpriteRun _ _ h)).busShared
  case h_5 => exact (loadBody_asks _ (scbStore_inSpriteRun _ _ h)).busShared
  case h_6 => exact (lineOffset_asks _ h).busShared
  case h_7 => refine (lineData_asks _ ?_).busShared; exact h
  case h_8 => exact (drawPixels_asks _ h).busShared
  case h_9 => refine (drawPixels_asks _ ?_).busShared; exact h
  case h_10 => exact (flushBoth_asks _ h).busShared
  case h_11 => exact (walkAgain_asks h.1).busShared
  case h_12 => exact .of_inactive rfl (by simp)

/-! ## The CPU's side (40_cpu_machine.md R200, R216) -/

/-- The request protocol, of both agents. -/
def Protocol (s : State) : Prop := CpuWaits s ∧ BusShared s

theorem retire_cpuWaits (s : State) : CpuWaits (retire s) := ⟨_, rfl, rfl, fun _ => rfl⟩

/-- Suspended on an element's request, the CPU waits on that request. -/
theorem suspend_cpuWaits {m : Micro} {s : State} {r : Request} (rest : List Micro) (h : m.request s = some r) :
    CpuWaits (suspend r (.running (m :: rest)) (m.before s)) := by
  refine ⟨r, rfl, Micro.kind_of_request h, fun hf => ?_⟩
  have hk := Micro.kind_of_request h
  cases m with
  | operandHi => cases h; rfl
  | setEa | setVal | setLo | pointer | act => cases h
  | _ => simp only [Micro.kind, Option.some.injEq] at hk; simp [← hk] at hf

/-- An operand fetch is asked for at PC. -/
theorem fetchOrRun_cpuWaits {op : Byte} {got : List Byte} {s s' : State} (h : fetchOrRun op got s = .fetch s') :
    CpuWaits s' := by
  simp only [fetchOrRun] at h
  split at h
  · cases h; exact ⟨_, rfl, rfl, fun _ => rfl⟩
  · cases h

theorem cpuResume_cpuWaits {k : Cont} {v : Byte} {s s' : State} (h : cpuResume k v s = .fetch s') :
    CpuWaits s' := by
  cases k with
  | boundary =>
    simp only [cpuResume, boundaryResume] at h
    split at h
    · cases h
    · exact fetchOrRun_cpuWaits h
  | operands op got => exact fetchOrRun_cpuWaits h
  | running seq => cases seq <;> cases h

/-! ## A sprite step -/

theorem OnlySprite.cpuWaits {s t : State} (h : OnlySprite s t) (hs : CpuWaits s) : CpuWaits t := by
  unfold OnlySprite at h
  rw [h]
  exact hs

/-- The service of a request reaches RAM, and of the engine the depository alone. -/
theorem sprService_frame (src : DepoSource) (r : SprReq) (s : State) :
    (sprService src r s).2 =
      { s with ram := (sprService src r s).2.ram
               spr := { s.spr with depo := (sprService src r s).2.spr.depo } } := by
  simp only [sprService]
  split <;> rfl

theorem spriteStep_protocol {s t : State} (hp : Protocol s) (ha : spriteActive s = true)
    (h : spriteStep s = .ok t) : Protocol t := by
  obtain ⟨hcpu, -, hstalled⟩ := hp
  obtain ⟨r, -, hk, rfl⟩ := spriteStep_ok h
  rw [sprService_frame]
  exact ⟨(sprResume_onlySprite _ _).cpuWaits hcpu, sprResume_busShared _ ⟨hstalled.2 ha, ha⟩ hk⟩

/-! ## An event (20_memory.md R96) -/

/-- Equal but for what an event handler may work on: the clock, the predictor, the queue, the timers, the interrupt
status, the display, the free values and what leaves the machine. -/
def OnlyDevices (s t : State) : Prop :=
  t = { s with
        now := t.now, seqNext := t.seqNext, queue := t.queue, timers := t.timers, intPending := t.intPending
        display := t.display, draws := t.draws, out := t.out }

theorem OnlyDevices.refl (s : State) : OnlyDevices s s := rfl

theorem OnlyDevices.trans {s t u : State} (h₁ : OnlyDevices s t) (h₂ : OnlyDevices t u) : OnlyDevices s u := by
  unfold OnlyDevices at h₁ h₂
  rw [h₁] at h₂
  exact h₂

theorem setPending_onlyDevices (t : Nat) (v : Byte) (s : State) : OnlyDevices s (setPending t v s) := by
  rw [setPending_eq]; rfl

theorem schedule_onlyDevices (n : Fin 12) (T : Timer) (t : Nat) (s : State) :
    OnlyDevices s (schedule n T t s) := by
  rw [schedule_eq]; rfl

theorem setTimer_onlyDevices (n : Fin 12) (T : Timer) (s : State) : OnlyDevices s (setTimer n T s) := rfl

theorem breakFrame_onlyDevices (b : Bool) (s : State) : OnlyDevices s (breakFrame b s) := rfl

theorem finishOpenLine_onlyDevices (t : Nat) (s : State) : OnlyDevices s (finishOpenLine t s) := by
  simp only [finishOpenLine]
  split <;> rfl

theorem latchDmaAddr_onlyDevices (r : Byte) (s : State) : OnlyDevices s (latchDmaAddr r s) := by
  simp only [latchDmaAddr]
  split <;> rfl

theorem openRow_onlyDevices (t : Nat) (r : Byte) (s : State) : OnlyDevices s (openRow t r s) := by
  simp only [openRow]
  split <;> rfl

theorem hblank_onlyDevices (t : Nat) (r : Byte) (s : State) : OnlyDevices s (hblank t r s) :=
  (((breakFrame_onlyDevices _ s).trans (finishOpenLine_onlyDevices t _)).trans
    (latchDmaAddr_onlyDevices r _)).trans (openRow_onlyDevices t r _)

theorem vblank_onlyDevices (t : Nat) (s : State) : OnlyDevices s (vblank t s) :=
  (finishOpenLine_onlyDevices t s).trans rfl

theorem triggerInt_onlyDevices (n : Fin 12) (t : Nat) (s : State) : OnlyDevices s (triggerInt n t s) := by
  simp only [triggerInt]
  split
  · exact setPending_onlyDevices _ _ s
  · exact .refl s

theorem triggerDevice_onlyDevices (n : Fin 12) (t : Nat) (s : State) : OnlyDevices s (triggerDevice n t s) := by
  simp only [triggerDevice]
  split
  case h_1 => exact (breakFrame_onlyDevices _ s).trans (hblank_onlyDevices t _ _)
  case h_2 => exact (breakFrame_onlyDevices _ s).trans (vblank_onlyDevices t _)
  all_goals rfl

theorem fireHead_onlyDevices (n : Fin 12) (t : Nat) (s : State) : OnlyDevices s (fireHead n t s) :=
  ((setTimer_onlyDevices n _ s).trans (triggerInt_onlyDevices n t _)).trans (triggerDevice_onlyDevices n t _)

theorem fireTail_onlyDevices (n : Fin 12) (t : Nat) (s : State) : OnlyDevices s (fireTail n t s) := by
  simp only [fireTail]
  split
  · exact schedule_onlyDevices n _ t s
  · exact .refl s

theorem borrowChain_onlyDevices (t : Nat) (ds : List (Fin 12)) (s : State) :
    OnlyDevices s (borrowChain t ds s) := by
  induction ds generalizing s with
  | nil => exact .refl s
  | cons d ds ih =>
    simp only [borrowChain]
    split
    · refine (setTimer_onlyDevices d { timer s d with borrowIn := true } s).trans ?_
      split
      · exact setTimer_onlyDevices d _ _
      · exact ((fireHead_onlyDevices d t _).trans (ih _)).trans (fireTail_onlyDevices d t _)
    · exact .refl s

theorem timerEvent_onlyDevices (n : Fin 12) (t : Nat) (s : State) : OnlyDevices s (timerEvent n t s) := by
  simp only [timerEvent]
  split
  · exact ((fireHead_onlyDevices n t s).trans (borrowChain_onlyDevices t _ _)).trans (fireTail_onlyDevices n t _)
  · exact .refl s

theorem dmaBurst_onlyDevices (t : Nat) (s : State) : OnlyDevices s (dmaBurst t s) := by
  rw [dmaBurst_frame]; rfl

theorem OnlyDevices.protocol {s t : State} (h : OnlyDevices s t) (hp : Protocol s) : Protocol t := by
  unfold OnlyDevices at h
  rw [h]
  exact hp

/-- The interrupt line may wake a sleeping CPU, and no other (60_exceptions.md R541). -/
theorem irqUpdate_protocol {s : State} (hp : Protocol s) : Protocol (irqUpdate s) := by
  obtain ⟨hcpu, hsprite, hstalled⟩ := hp
  refine ⟨hcpu, hsprite, ?_⟩
  have hrun : (irqUpdate s).cpuRun = .stalled ↔ s.cpuRun = .stalled := by
    simp only [irqUpdate]
    split
    · next hw => simp only [Bool.and_eq_true, beq_iff_eq] at hw; simp [hw.2]
    · exact .rfl
  exact hrun.trans hstalled

theorem handle_protocol (e : Action) {s : State} (hp : Protocol s) : Protocol (handle e s) := by
  simp only [handle]
  cases e.kind with
  | dma => exact (dmaBurst_onlyDevices _ s).protocol hp
  | timer n => exact (timerEvent_onlyDevices n _ s).protocol hp
  | irqUpdate => exact irqUpdate_protocol hp
  | endFrame => exact hp

theorem drain_protocol {s : State} (hp : Protocol s) : Protocol (drain s) := by
  simp only [drain]
  split
  · exact hp
  · next e u h =>
    rw [(pop_eq_some.1 h).2]
    exact handle_protocol e hp

theorem idleJump_protocol {s : State} (hp : Protocol s) : Protocol (idleJump s) := by
  simp only [idleJump]
  split <;> exact hp

/-! ## A request of the CPU (20_memory.md R103) -/

/-- A read has no effect but on the count of the free values. -/
theorem busRead_frame (a : Addr) (s : State) : (busRead a s).2 = { s with draws := (busRead a s).2.draws } := by
  simp only [busRead]
  cases regionOf a s.mapctl with
  | chipA o => simp only [chipARead]; cases regA o <;> rfl
  | chipB o => simp only [chipBRead]; cases regB o <;> rfl
  | _ => rfl

/-- On the CPU's turn a write of CPUSLEEP gives the bus to the sprite engine, puts the CPU to sleep, or does
nothing (60_exceptions.md R530, R540). -/
theorem cpusleepWrite_busShared {s : State} (hs : spriteActive s = false) (hr : s.cpuRun = .run) :
    BusShared (cpusleepWrite s) := by
  simp only [cpusleepWrite]
  split
  · exact (startRun_asks s).busShared
  · split
    · exact .of_inactive hs (by simp [hr])
    · exact .of_inactive hs (by simp)

theorem OnlyDevices.busShared {s t : State} (h : OnlyDevices s t) (hb : BusShared s) : BusShared t := by
  unfold OnlyDevices at h
  rw [h]
  exact hb

theorem chipBWrite_busShared (o v : Byte) (t : Nat) {s : State} (hs : spriteActive s = false)
    (hr : s.cpuRun = .run) : BusShared (chipBWrite o v t s) := by
  have hb : BusShared s := .of_inactive hs (by simp [hr])
  simp only [chipBWrite]
  cases regB o with
  | backup n | ctla n | count n => exact (schedule_onlyDevices n _ t s).busShared hb
  | ctlb n =>
    refine (schedule_onlyDevices n _ t _).busShared ?_
    simp only [storeHigh]
    split <;> exact hb
  | intrst | intset => exact (setPending_onlyDevices t _ s).busShared hb
  | cpusleep => exact cpusleepWrite_busShared hs hr
  | _ => exact hb

theorem chipAWrite_busShared (o v : Byte) {s : State} (hb : BusShared s) : BusShared (chipAWrite o v s) := by
  simp only [chipAWrite]
  cases regA o <;> exact hb

theorem busWrite_busShared (a : Addr) (v : Byte) {s : State} (hs : spriteActive s = false) (hr : s.cpuRun = .run) :
    BusShared (busWrite a v s) := by
  have hb : BusShared s := .of_inactive hs (by simp [hr])
  simp only [busWrite]
  cases regionOf a s.mapctl with
  | chipA o => exact chipAWrite_busShared o v hb
  | chipB o => exact chipBWrite_busShared o v _ hs hr
  | _ => exact hb

/-- Served on the CPU's turn, a request leaves the bus shared between the two agents. -/
theorem serve_busShared (r : Request) {s : State} (ht : turn s = .cpu) : BusShared (serve r s).2 := by
  obtain ⟨-, hs, hr⟩ := turn_eq_cpu_iff.1 ht
  have ha : BusShared (access r s).2 := by
    simp only [access]
    split
    · exact busWrite_busShared r.addr r.value hs hr
    · rw [busRead_frame]
      exact .of_inactive hs (by simp [hr])
  exact ha

/-! ## The CPU's turn -/

theorem Micro.after_busShared (m : Micro) (v : Byte) {s : State} (hb : BusShared s) : BusShared (m.after v s) := by
  obtain ⟨hr, -, -, hs, -⟩ := m.after_frame v s
  exact hb.congr hs hr

theorem Micro.suspend_busShared (m : Micro) (r : Request) (k : Cont) {s : State} (hb : BusShared s) :
    BusShared (suspend r k (m.before s)) := by
  obtain ⟨hr, -, -, hs, -⟩ := m.before_frame s
  exact hb.congr hs hr

/-- A sequence ends at a fetch boundary or suspended on a request, and either way the CPU waits on one request. -/
theorem perform_protocol (l : List Micro) {s : State} (hb : BusShared s) : Protocol (perform l s) := by
  induction l generalizing s with
  | nil => exact ⟨retire_cpuWaits s, hb⟩
  | cons m rest ih =>
    cases hr : m.request s with
    | none =>
      rw [perform_internal hr]
      exact ih (m.after_busShared 0 hb)
    | some r =>
      by_cases ht : turn (suspend r (.running (m :: rest)) (m.before s)) = .cpu
      · rw [perform_request hr ht]
        exact ih (m.after_busShared _ (serve_busShared r ht))
      · rw [perform_suspend hr ht]
        exact ⟨suspend_cpuWaits rest hr, m.suspend_busShared r _ hb⟩

theorem fetchOrRun_busShared (op : Byte) (got : List Byte) {s : State} (hb : BusShared s) :
    BusShared (fetchOrRun op got s).state := by
  simp only [fetchOrRun]
  split <;> exact hb

theorem cpuResume_busShared (k : Cont) (v : Byte) {s : State} (hb : BusShared s) :
    BusShared (cpuResume k v s).state := by
  cases k with
  | boundary =>
    simp only [cpuResume, boundaryResume]
    split
    · exact hb
    · refine fetchOrRun_busShared _ _ ?_
      exact hb
  | operands op got => exact fetchOrRun_busShared op _ hb
  | running seq =>
    cases seq with
    | nil => exact hb
    | cons m rest => exact m.after_busShared v hb

/-- What the CPU resumes with, when the request it waits on is served. -/
theorem cpuService_ok {s : State} {q : Resumed} (h : cpuService s = .ok q) :
    ∃ r, s.req = some r ∧ q = cpuResume s.cont (serve r s).1 (serve r s).2 := by
  simp only [cpuService] at h
  split at h
  · cases h
  · next r hr =>
    split at h
    · exact ⟨r, hr, (Except.ok.inj h).symm⟩
    · cases h

theorem cpuTurn_protocol {fuel : Nat} {s t : State} (hp : Protocol s) (ht : turn s = .cpu)
    (h : cpuTurn fuel s = .next t) : Protocol t := by
  induction fuel generalizing s with
  | zero => cases h; exact hp
  | succ fuel ih =>
    cases hq : cpuService s with
    | error f => simp [cpuTurn, hq] at h
    | ok q =>
      obtain ⟨r, -, hres⟩ := cpuService_ok hq
      have hb : BusShared q.state := hres ▸ cpuResume_busShared _ _ (serve_busShared r ht)
      cases q with
      | fetch s' =>
        have hp' : Protocol s' := ⟨cpuResume_cpuWaits hres.symm, hb⟩
        simp only [cpuTurn, hq] at h
        split at h
        · next ht' => exact ih hp' ht' h
        · cases h; exact hp'
      | instr i s' =>
        simp only [cpuTurn, hq, exec_eq_next, Host.Outcome.next.injEq] at h
        exact h ▸ perform_protocol _ hb
      | seq l s' =>
        simp only [cpuTurn, hq, meaning, Host.Outcome.next.injEq] at h
        exact h ▸ perform_protocol l hb

/-! ## The step -/

theorem step_protocol {s t : State} (hp : Protocol s) (h : step s = .next t) : Protocol t := by
  rw [step_of_turn] at h
  cases ht : turn s with
  | event =>
    simp only [ht, Host.Outcome.next.injEq] at h
    exact h ▸ drain_protocol hp
  | sprite =>
    simp only [ht] at h
    cases hs : spriteStep s with
    | error f => simp [hs, outcome] at h
    | ok u =>
      simp only [hs, outcome, Host.Outcome.next.injEq] at h
      exact h ▸ spriteStep_protocol hp (turn_eq_sprite_iff.1 ht).2 hs
  | cpu =>
    simp only [ht] at h
    exact cpuTurn_protocol hp ht h
  | idle =>
    simp only [ht, Host.Outcome.next.injEq] at h
    exact h ▸ idleJump_protocol hp
  | stuck => simp [ht] at h

/-- Settles O57: a step is one agent's turn, and each turn keeps the protocol of both. -/
theorem protocolKept : Obligations.ProtocolKept := by
  intro s t hcpu hsprite hstalled h
  exact step_protocol ⟨hcpu, hsprite, hstalled⟩ h

/-! ## When a step stops (R215; 20_memory.md R107) -/

theorem spriteStep_ne_error {s : State} (hw : SpriteWaits s) (ha : spriteActive s = true) (f : Fault) :
    spriteStep s ≠ .error f := by
  intro h
  obtain ⟨r, hr, hk⟩ := hw ha
  rcases spriteStep_error h with ⟨-, hnone⟩ | ⟨-, r', hr', hk'⟩
  · simp [hr] at hnone
  · simp_all

theorem cpuStep_ne_error {s : State} (hw : CpuWaits s) (f : Fault) : cpuStep s ≠ .error f := by
  obtain ⟨r, hr, hk, -⟩ := hw
  obtain ⟨q, hq⟩ := cpuService_of_waits hr hk
  simp [cpuStep, hq]

/-- Settles O60: each agent's turn finds the request it waits for, so only the turn that is nobody's is left to
fault. -/
theorem onlyStuckFaults : Obligations.OnlyStuckFaults := by
  intro s f hcpu hsprite
  rw [stepIsArbiterSteps.2, ← turn_eq_stuck_iff]
  simp only [arbiterStep]
  cases ht : turn s with
  | event | idle => simp
  | sprite => simpa using spriteStep_ne_error hsprite (turn_eq_sprite_iff.1 ht).2 f
  | cpu => simpa using cpuStep_ne_error hcpu f
  | stuck => simp [eq_comm]

end Sys2Proof.Machine
end

section
/-! Proofs for the family of 40_cpu_machine.md: a read-modify-write instruction on a chip register (R212), as the
three requests it makes of the bus. -/

namespace Sys2Proof.Machine

/-! ## A request, apart from what the CPU works with -/

/-- The machine `s` with the registers, the request under way, the continuation and the locals of `c`. -/
def withWork (c s : State) : State :=
  { s with regs := c.regs, req := c.req, cont := c.cont, loc := c.loc }

/-- `withWork` is the `withCpu` that leaves the clock alone. -/
theorem withCpu_eq_withWork {s : State} {n : Nat} (c : State) (h : s.now = n) :
    withCpu { c with now := n } s = withWork c s := by
  subst h; rfl

theorem busRead_withWork (c : State) (a : Addr) (s : State) :
    busRead a (withWork c s) = ((busRead a s).1, withWork c (busRead a s).2) := by
  rw [← withCpu_eq_withWork c rfl, ← withCpu_eq_withWork c (busRead_now a s)]
  have hm : (withCpu { c with now := s.now } s).mapctl = s.mapctl := rfl
  simp only [busRead, hm]
  cases regionOf a s.mapctl with
  | chipA o => exact chipARead_withCpu _ o s
  | chipB o => exact chipBRead_withCpu _ o s.now s
  | _ => rfl

theorem busWrite_withWork (c : State) (a : Addr) (v : Byte) (s : State) :
    busWrite a v (withWork c s) = withWork c (busWrite a v s) := by
  rw [← withCpu_eq_withWork c rfl, ← withCpu_eq_withWork c (busWrite_now a v s)]
  have hm : (withCpu { c with now := s.now } s).mapctl = s.mapctl := rfl
  simp only [busWrite, hm]
  cases regionOf a s.mapctl with
  | chipA o => exact chipAWrite_withCpu _ o v s
  | chipB o => exact chipBWrite_withCpu _ o v s.now s
  | _ => rfl

/-- What a request does to the bus neither depends on the CPU's registers and continuation nor changes them. -/
theorem serve_withWork (r : Request) (c s : State) :
    serve r (withWork c s) = ((serve r s).1, withWork c (serve r s).2) := by
  have ha : access r (withWork c s) = ((access r s).1, withWork c (access r s).2) := by
    simp only [access]
    split
    · rw [busWrite_withWork]
    · exact busRead_withWork c _ s
  simp only [serve, ha]
  rfl

/-! ## A request to a chip register -/

/-- The cost on a chip page, by the request's kind and address and by MAPCTL alone (20_memory.md R112). -/
theorem cost_onChip {r r' : Request} {s t : State} (h : onChip s r.addr = true) (hk : r'.kind = r.kind)
    (ha : r'.addr = r.addr) (hm : t.mapctl = s.mapctl) : cost r' t = cost r s := by
  simp only [onChip] at h
  simp only [cost, hk, ha, hm]
  split <;> simp_all

theorem predict_onChip {r : Request} {s : State} (h : onChip s r.addr = true) : predict r s.mapctl = none := by
  have hm : (regionOf r.addr s.mapctl).isMemory = false := by
    simp only [onChip] at h
    cases hr : regionOf r.addr s.mapctl <;> simp_all [Region.isMemory]
  simp [predict, hm]

/-- The machine `t`, after an access of kind `k` to `a`, once the access is charged at the cost it has in `s`. -/
def charged (s : State) (a : Addr) (k : ReqKind) (t : State) : State :=
  { t with now := t.now + cost { kind := k, addr := a, value := 0 } s, seqNext := none }

theorem serve_readReq_onChip {s t : State} {a : Addr} (h : onChip s a = true) (hm : t.mapctl = s.mapctl) :
    serve (readReq a) t = (byteAt t a, charged s a .read (busRead a t).2) := by
  have hp : predict (readReq a) t.mapctl = none := hm ▸ predict_onChip (r := readReq a) h
  simp only [serve, hp, cost_onChip (r := readReq a) h rfl rfl hm]
  rfl

theorem serve_writeReq_onChip {s t : State} {a : Addr} (v : Byte) (h : onChip s a = true)
    (hm : t.mapctl = s.mapctl) : (serve (writeReq a v) t).2 = charged s a .write (busWrite a v t) := by
  have hp : predict (writeReq a v) t.mapctl = none := hm ▸ predict_onChip (r := writeReq a v) h
  have hn : cost (writeReq a v) t = cost { kind := .write, addr := a, value := 0 } s :=
    cost_onChip (r := { kind := .write, addr := a, value := 0 }) h rfl rfl hm
  simp only [serve, hp, hn]
  rfl

theorem charged_read_frame (s : State) (a : Addr) (t : State) :
    charged s a .read (busRead a t).2 =
      { t with draws := (charged s a .read (busRead a t).2).draws
               now := (charged s a .read (busRead a t).2).now, seqNext := none } := by
  simp only [charged]
  rw [busRead_frame]

/-! ## A sequence, apart from what the CPU works with -/

theorem Micro.request_withWork (m : Micro) (c s : State) : m.request (withWork c s) = m.request c := by
  cases m with
  | discard p | discardIfCrossed p | read p | write p | writeBack p => cases p <;> rfl
  | _ => rfl

theorem Micro.before_withWork (m : Micro) (c s : State) : m.before (withWork c s) = withWork (m.before c) s := by
  cases m <;> rfl

theorem Micro.after_withWork (m : Micro) (v : Byte) (c s : State) :
    m.after v (withWork c s) = withWork (m.after v c) s := by
  cases m <;> rfl

/-- An internal operation changes what the CPU works with alone. -/
theorem perform_withWork_internal {m : Micro} {rest : List Micro} {c : State} (s : State)
    (h : m.request c = none) : perform (m :: rest) (withWork c s) = perform rest (withWork (m.after 0 c) s) := by
  rw [perform_internal (by rw [Micro.request_withWork, h]), Micro.after_withWork]

/-- A request that an element emits from what the CPU works with, `c`, is served by the machine `s`. -/
theorem perform_withWork_request {m : Micro} {rest : List Micro} {c s : State} {r : Request}
    (h : m.request c = some r) (ht : turn s = .cpu) :
    perform (m :: rest) (withWork c s) =
      perform rest
        (withWork (m.after (serve r s).1 (suspend r (.running (m :: rest)) (m.before c))) (serve r s).2) := by
  have hs : suspend r (.running (m :: rest)) (m.before (withWork c s)) =
      withWork (suspend r (.running (m :: rest)) (m.before c)) s := by
    rw [Micro.before_withWork]; rfl
  rw [perform_request (by rw [Micro.request_withWork, h]) (by rw [hs]; exact ht), hs, serve_withWork,
    Micro.after_withWork]

/-! ## Read-modify-write (40_cpu_machine.md R212) -/

/-- With nothing scheduled, a read of a chip register leaves the turn to the CPU. -/
theorem turn_charged_read {s t : State} (a : Addr) (hq : t.queue = []) (ht : turn t = .cpu) :
    turn (charged s a .read (busRead a t).2) = .cpu := by
  obtain ⟨-, hs, hr⟩ := turn_eq_cpu_iff.1 ht
  rw [charged_read_frame]
  exact turn_eq_cpu_iff.2 ⟨by simp only [due, hq], hs, hr⟩

/-- A read-modify-write of a chip register reads it twice and writes what the operation makes of the first byte. -/
theorem perform_rmwSeq_onChip {s : State} {a : Addr} (op : Rmw) (hq : s.queue = []) (ht : turn s = .cpu)
    (hc : onChip s a = true) :
    let v := byteAt s a
    let s₁ := charged s a .read (busRead a s).2
    let s₂ := charged s a .read (busRead a s₁).2
    perform (rmwSeq (eaAbs a) op) s =
      retire
        { charged s a .write (busWrite a (rmwValue op s.regs.p s.regs.a v) s₂) with
          regs := { s.regs with p := rmwFlags op s.regs.p s.regs.a v } } := by
  intro v s₁ s₂
  have hf₁ : s₁ = { s with draws := s₁.draws, now := s₁.now, seqNext := none } := charged_read_frame s a s
  have hf₂ : s₂ = { s₁ with draws := s₂.draws, now := s₂.now, seqNext := none } := charged_read_frame s a s₁
  have hm₁ : s₁.mapctl = s.mapctl := by rw [hf₁]
  have hm₂ : s₂.mapctl = s.mapctl := by rw [hf₂, hm₁]
  have hq₁ : s₁.queue = [] := by rw [hf₁, hq]
  have ht₁ : turn s₁ = .cpu := turn_charged_read a hq ht
  have ht₂ : turn s₂ = .cpu := turn_charged_read a hq₁ ht₁
  have hr : serve (readReq a) s = (v, s₁) := serve_readReq_onChip hc rfl
  have hr₁ : serve (readReq a) s₁ = (byteAt s₁ a, s₂) := serve_readReq_onChip hc hm₁
  have hw := serve_writeReq_onChip (rmwValue op s.regs.p s.regs.a v) hc hm₂
  change perform [.setEa a, .read .ea .val, .discard .ea, .writeBack .ea op, .act (.rmwSetFlags op)]
    (withWork s s) = _
  rw [perform_withWork_internal s rfl, perform_withWork_request (r := readReq a) rfl ht, hr,
    perform_withWork_request (r := readReq a) rfl ht₁, hr₁,
    perform_withWork_request (r := writeReq a (rmwValue op s.regs.p s.regs.a v)) rfl ht₂, hw,
    perform_withWork_internal _ rfl]
  rfl

theorem msb_eq_bit_seven (v : Byte) : v.msb = v.getLsbD 7 := BitVec.msb_eq_getLsbD_last v

theorem bitByte_shift_seven (b : Bool) : bitByte b <<< 7 = ((if b then 0x80 else 0 : Nat) : Byte) := by
  cases b <;> rfl

theorem xor_FF (v : Byte) : v ^^^ 0xFF = ~~~v := BitVec.xor_allOnes

/-- Each of the eight operations is one of the model's, in its absolute form (42_alu.md R315, R316; 43_shift_rmw.md
R351 to R356). -/
theorem exists_rmw_of_mem {m : Modifier} (hm : m ∈ modifiers) :
    ∃ op : Rmw, (∀ a r, program (m.form a) r = rmwSeq (eaAbs a) op) ∧
      (∀ r v, rmwValue op r.p r.a v = m.value r v) ∧ ∀ r v, rmwFlags op r.p r.a v = m.flags r v := by
  simp only [modifiers, List.mem_cons, List.not_mem_nil, or_false] at hm
  rcases hm with rfl | rfl | rfl | rfl | rfl | rfl | rfl | rfl
  · exact ⟨.inc, fun _ _ => rfl, fun _ _ => rfl, fun r v => setNZ_eq_withNZ r.p _⟩
  · exact ⟨.dec, fun _ _ => rfl, fun _ _ => rfl, fun r v => setNZ_eq_withNZ r.p _⟩
  · refine ⟨.asl, fun _ _ => rfl, fun _ _ => rfl, fun r v => ?_⟩
    simp only [rmwFlags, rmwValue, setNZ_eq_withNZ, msb_eq_bit_seven]
  · refine ⟨.lsr, fun _ _ => rfl, fun _ _ => rfl, fun r v => ?_⟩
    simp only [rmwFlags, rmwValue, setNZ_eq_withNZ]
  · refine ⟨.rol, fun _ _ => rfl, fun _ _ => rfl, fun r v => ?_⟩
    simp only [rmwFlags, rmwValue, bitByte, setNZ_eq_withNZ, msb_eq_bit_seven]
  · refine ⟨.ror, fun _ _ => rfl, fun r v => ?_, fun r v => ?_⟩
    · simp only [rmwValue, bitByte_shift_seven]
    · simp only [rmwFlags, rmwValue, bitByte_shift_seven, setNZ_eq_withNZ]
  · exact ⟨.tsb, fun _ _ => rfl, fun _ _ => rfl, fun r v => by simp only [rmwFlags, testFlags, beq_eq_decide]⟩
  · refine ⟨.trb, fun _ _ => rfl, fun r v => ?_, fun r v => ?_⟩
    · simp only [rmwValue, xor_FF]
    · simp only [rmwFlags, testFlags, beq_eq_decide]

/-- Settles O33: the instruction performs the read-modify-write sequence of its operation. -/
theorem chipModifies : Obligations.ChipModifies := by
  intro s a hq ht hc m hm
  obtain ⟨op, hprog, hvalue, hflags⟩ := exists_rmw_of_mem hm
  have hp := perform_rmwSeq_onChip op hq ht hc
  rw [exec_eq_next, hprog, hp, hvalue, hflags]
  rfl

end Sys2Proof.Machine
end

section
/-! Proofs for the family of 40_cpu_machine.md: a step at a fetch boundary is the opcode fetch, the operand fetches
and the instruction (R203, R204, R209). -/

namespace Sys2Proof.Machine

/-- A request that reaches no chip costs at least `fastCost`. -/
theorem fast_le_cost {r : Request} {s : State} (h : onChip s r.addr = false) : Config.fastCost ≤ cost r s := by
  have hf : Config.fastCost ≤ Config.slowCost := by simp only [Config.slowCost]; omega
  have hm : Config.fastCost ≤ cost.memoryCost r s := by
    simp only [cost.memoryCost]
    split
    · exact hf
    · split
      · exact Nat.le_refl _
      · exact hf
  simp only [onChip] at h
  simp only [cost]
  split <;> simp_all

/-! ## The state while an instruction is fetched -/

/-- `f` is `s` after `n` bytes of an instruction were fetched: PC has moved past them, the time is between that of
all fast and all slow fetches, and beside the predictor and the request under way nothing else has changed. -/
structure AfterFetches (n : Nat) (s f : State) : Prop where
  frame : f = { s with
                regs := { s.regs with pc := s.regs.pc + BitVec.ofNat 16 n }
                now := f.now, seqNext := f.seqNext, req := f.req, cont := f.cont }
  fast : s.now + n * Config.fastCost ≤ f.now
  slow : f.now ≤ s.now + n * Config.slowCost

namespace AfterFetches

theorem zero (s : State) : AfterFetches 0 s s :=
  ⟨by simp, by simp, by simp⟩

variable {n : Nat} {s f : State}

theorem suspend (h : AfterFetches n s f) (r : Request) (k : Cont) : AfterFetches n s (suspend r k f) :=
  ⟨congrArg (Machine.suspend r k) h.frame, h.fast, h.slow⟩

theorem pc (h : AfterFetches n s f) : f.regs.pc = s.regs.pc + BitVec.ofNat 16 n := by
  rw [h.frame]

/-- Code off the chip pages reads the same while it is fetched. -/
theorem byteAt (h : AfterFetches n s f) {a : Addr} (ha : onChip s a = false) :
    onChip f a = false ∧ byteAt f a = byteAt s a := by
  have hf : onChip f a = false := by rw [h.frame]; exact ha
  refine ⟨hf, ?_⟩
  rw [byteAt_plain hf, byteAt_plain ha, h.frame]
  rfl

/-- It stays the CPU's turn for as many fetches as nothing falls due within. -/
theorem turn {m : Nat} (h : AfterFetches n s f) (hq : Quiet m s) (hn : n ≤ m) : turn f = .cpu := by
  obtain ⟨hr, hs, hd⟩ := hq
  have hslow := h.slow
  have hmul : n * Config.slowCost ≤ m * Config.slowCost := Nat.mul_le_mul_right _ hn
  refine turn_of_quiet (n := 0) ⟨by rw [h.frame]; exact hr, by rw [h.frame]; exact hs, fun e he => ?_⟩
  rw [h.frame] at he
  have := hd e he
  omega

/-- One fetch more: the byte at PC is read, and PC moves past it. -/
theorem fetch (h : AfterFetches n s f) {r : Request} (hk : r.kind ≠ .write) (hr : r.addr = f.regs.pc)
    (hc : onChip s (s.regs.pc + BitVec.ofNat 16 n) = false) :
    (serve r f).1 = Machine.byteAt s (s.regs.pc + BitVec.ofNat 16 n) ∧
      AfterFetches (n + 1) s (advancePc (serve r f).2) := by
  obtain ⟨hcf, hb⟩ := h.byteAt hc
  rw [h.pc] at hr
  rw [← hr] at hcf hb ⊢
  have hfast := fast_le_cost hcf
  have hslow := cost_le_slow hcf
  have hpc : s.regs.pc + BitVec.ofNat 16 n + 1 = s.regs.pc + BitVec.ofNat 16 (n + 1) := by
    rw [BitVec.ofNat_add, BitVec.add_assoc]; rfl
  obtain ⟨hframe, hlo, hhi⟩ := h
  rw [serve_read hcf hk]
  refine ⟨hb, ?_, ?_, ?_⟩
  · rw [← hpc]
    exact congrArg (fun u => advancePc { u with seqNext := predict r f.mapctl, now := f.now + cost r f }) hframe
  · simp only [advancePc_now, Nat.add_mul]; omega
  · simp only [advancePc_now, Nat.add_mul]; omega

end AfterFetches

/-! ## The fetches of one instruction -/

/-- What the CPU's turn does with what it resumed, `fuel` requests of it being left. -/
def carryOn (fuel : Nat) : Resumed → Host.Outcome State Fault Refusal
  | .fetch s => if turn s = .cpu then cpuTurn fuel s else .next s
  | .instr i s => exec i s
  | .seq l s => meaning l s

theorem cpuTurn_eq_carryOn (fuel : Nat) {s : State} {q : Resumed} (h : cpuService s = .ok q) :
    cpuTurn (fuel + 1) s = carryOn fuel q := by
  simp only [cpuTurn, h]
  cases q <;> rfl

/-- A request of the kind waited for is served, and the CPU resumed with its byte. -/
theorem cpuService_eq {s : State} {r : Request} (hr : s.req = some r) (hk : s.cont.kind = some r.kind) :
    cpuService s = .ok (cpuResume s.cont (serve r s).1 (serve r s).2) := by
  simp only [cpuService, hr, if_pos hk]

/-- The first `n` operand bytes of the instruction at PC. -/
def operandsAt (s : State) (n : Nat) : List Byte :=
  (List.range n).map fun k => byteAt s (s.regs.pc + BitVec.ofNat 16 (k + 1))

@[simp] theorem operandsAt_length (s : State) (n : Nat) : (operandsAt s n).length = n := by
  simp [operandsAt]

theorem operandsAt_succ (s : State) (n : Nat) :
    operandsAt s (n + 1) = operandsAt s n ++ [byteAt s (s.regs.pc + BitVec.ofNat 16 (n + 1))] := by
  simp [operandsAt, List.range_succ]

/-- The request for the operand byte at PC (40_cpu_machine.md R204). -/
def operandFetch (s : State) : Request := { kind := .fetchOperand, addr := s.regs.pc, value := 0 }

theorem fetchOrRun_of_lt {op : Byte} {got : List Byte} (s : State) (h : got.length < operandFetches op) :
    fetchOrRun op got s = .fetch (suspend (operandFetch s) (.operands op got) s) := if_pos h

theorem fetchOrRun_of_le {op : Byte} {got : List Byte} (s : State) (h : operandFetches op ≤ got.length) :
    fetchOrRun op got s = .instr (fetchedInstr op got s) s := if_neg (Nat.not_lt.2 h)

/-- With `n` operand bytes of `op` fetched and `j` to come, the CPU's turn fetches those and runs the
instruction, if it has as many requests left. -/
theorem carryOn_fetchOrRun {s : State} {op : Byte} {m : Nat} (hq : Quiet m s) (hm : operandFetches op < m)
    (hc : ∀ k ≤ operandFetches op, onChip s (s.regs.pc + BitVec.ofNat 16 k) = false) {j n fuel : Nat}
    {u : State} (hn : n + j = operandFetches op) (hj : j ≤ fuel) (hu : AfterFetches (n + 1) s u) :
    ∃ f, carryOn fuel (fetchOrRun op (operandsAt s n) u) =
        exec (fetchedInstr op (operandsAt s (operandFetches op)) f) f ∧
      AfterFetches (operandFetches op + 1) s f := by
  induction j generalizing n fuel u with
  | zero =>
    obtain rfl : n = operandFetches op := hn
    refine ⟨u, ?_, hu⟩
    rw [fetchOrRun_of_le u (operandsAt_length s _).ge, carryOn]
  | succ j ih =>
    obtain ⟨fuel, rfl⟩ := Nat.exists_eq_add_one_of_ne_zero (Nat.ne_of_gt (Nat.lt_of_lt_of_le j.succ_pos hj))
    have hw := hu.suspend (operandFetch u) (.operands op (operandsAt s n))
    obtain ⟨hb, hnext⟩ := hw.fetch (r := operandFetch u) (by simp [operandFetch]) rfl (hc (n + 1) (by omega))
    obtain ⟨f, hrun, hf⟩ := ih (n := n + 1) (by omega) (Nat.le_of_succ_le_succ hj) hnext
    refine ⟨f, ?_, hf⟩
    have hlt : (operandsAt s n).length < operandFetches op := by rw [operandsAt_length]; omega
    rw [← hrun, fetchOrRun_of_lt u hlt, carryOn, if_pos (hw.turn hq (by omega)),
      cpuTurn_eq_carryOn fuel (cpuService_eq (r := operandFetch u) rfl rfl), suspend_cont,
      cpuResume, hb, ← operandsAt_succ]

/-! ## The instruction that was fetched -/

/-- No more operand bytes are fetched before the instruction runs than it has. -/
theorem operandFetches_lt_opLength (op : Byte) : operandFetches op < opLength op := by
  revert op; decide

theorem operandFetches_le_two (op : Byte) : operandFetches op ≤ 2 := by
  revert op; decide

/-- Of JSR two bytes are fetched before it runs, and of every other instruction all (40_cpu_machine.md R214). -/
theorem operandFetches_succ (op : Byte) : operandFetches op + 1 = if op = 0x20 then 2 else opLength op := by
  simp only [operandFetches, opLength_eq]
  split <;> rfl

/-- The instruction that the fetched bytes make is the one that the bytes at PC decode to. -/
theorem fetchedInstr_eq_of_decode {s f : State} {op : Byte} {i : Instr} {rest : List Byte}
    (hd : decode [op, byteAt s (s.regs.pc + 1), byteAt s (s.regs.pc + 2)] = .ok (i, rest))
    (hc : ∀ k < opLength op, onChip s (s.regs.pc + BitVec.ofNat 16 k) = false)
    (hf : AfterFetches (operandFetches op + 1) s f) :
    fetchedInstr op (operandsAt s (operandFetches op)) f = i := by
  cases hform : decodeOp op with
  | f1 j =>
    cases (decode_f1 hform _).symm.trans hd
    simp only [fetchedInstr, assemble, hform]
  | f2 mk =>
    cases (decode_f2 hform _ _).symm.trans hd
    have hop : op ≠ 0x20 := fun e => by subst e; cases hform
    simp only [fetchedInstr, assemble, hform, operandFetches, if_neg hop]
    rfl
  | f3 mk =>
    cases (decode_f3 hform _ _ _).symm.trans hd
    simp only [fetchedInstr, assemble, hform]
    by_cases hop : op = 0x20
    · have hlate : byteAt f f.regs.pc = byteAt s (s.regs.pc + 2) := by
        subst hop
        rw [hf.pc]
        exact (hf.byteAt (hc 2 (by decide))).2
      rw [← hlate, operandFetches, if_pos hop]
      rfl
    · rw [operandFetches, if_neg hop, hform]
      rfl

/-! ## The step -/

/-- No interrupt is taken only if neither RESET nor NMI is pending, and then there is nothing to acknowledge. -/
theorem acknowledge_of_no_interrupt {m : IrqMask} {r : Regs} (h : interruptFor m r = none) :
    acknowledge m = m := by
  obtain ⟨reset, nmi, irq⟩ := m
  cases reset with
  | true => cases h
  | false =>
    cases nmi with
    | true => cases h
    | false => rfl

theorem boundaryResume_of_no_interrupt {s : State} (v : Byte) (h : interruptFor s.irqMask s.regs = none) :
    boundaryResume v s = fetchOrRun v [] (advancePc s) := by
  simp only [boundaryResume, h, acknowledge_of_no_interrupt h]

/-- The opcode fetch, where no interrupt is taken. -/
theorem cpuService_boundary {s : State} (hcont : s.cont = .boundary)
    (hreq : s.req = some { kind := .fetchOpcode, addr := s.regs.pc, value := 0 })
    (hint : interruptFor s.irqMask s.regs = none) (hc : onChip s s.regs.pc = false) :
    cpuService s =
      .ok (fetchOrRun (byteAt s s.regs.pc) []
        (advancePc (serve { kind := .fetchOpcode, addr := s.regs.pc, value := 0 } s).2)) := by
  rw [cpuService_eq hreq (by rw [hcont]; rfl)]
  generalize hr : ({ kind := .fetchOpcode, addr := s.regs.pc, value := 0 } : Request) = r
  have hserve : serve r s =
      (byteAt s s.regs.pc, { s with seqNext := predict r s.mapctl, now := s.now + cost r s }) := by
    subst hr
    exact serve_read hc (by simp)
  have hint' : interruptFor (serve r s).2.irqMask (serve r s).2.regs = none := by rw [hserve]; exact hint
  rw [hcont, cpuResume, boundaryResume_of_no_interrupt _ hint']
  rw [hserve]

/-- Settles O38: the opcode fetch, and then the operand fetches one after another. -/
theorem stepRunsInstruction : Obligations.StepRunsInstruction := by
  intro s i rest pc op fetched hq hcont hreq hint hc hd
  have hlt := operandFetches_lt_opLength op
  have htwo := operandFetches_le_two op
  have hpc : onChip s pc = false := by simpa using hc 0 (by omega)
  have hop := ((AfterFetches.zero s).fetch (r := { kind := .fetchOpcode, addr := pc, value := 0 })
    (by simp) rfl (hc 0 (by omega))).2
  obtain ⟨f, hrun, hf⟩ := carryOn_fetchOrRun (fuel := 2) hq (by omega) (fun k hk => hc k (by omega))
    (Nat.zero_add (operandFetches op)) htwo hop
  have hstep : step s = exec i f := by
    rw [← fetchedInstr_eq_of_decode hd hc hf, ← hrun, step_of_turn, turn_of_quiet hq]
    exact cpuTurn_eq_carryOn 2 (cpuService_boundary hcont hreq hint hpc)
  rw [operandFetches_succ op] at hf
  exact ⟨f, hstep, hf.frame, hf.fast, hf.slow⟩

end Sys2Proof.Machine
end

section
/-! Proofs for the family of 41_load_store_transfer.md: the rules for a bus sequence that makes at most `n` requests,
all off the chip pages, and what the operand forms (30_encoding.md R161 to R163) and the access classes
(40_cpu_machine.md R210, R211, R213) do by those rules. -/

namespace Sys2Proof.Machine

/-! ## A sequence apart from the request under way -/

theorem Micro.request_suspend (m : Micro) (r : Request) (k : Cont) (s : State) :
    m.request (suspend r k s) = m.request s := by
  cases m with
  | discard p | discardIfCrossed p | read p | write p | writeBack p => cases p <;> rfl
  | _ => rfl

theorem Micro.before_suspend (m : Micro) (r : Request) (k : Cont) (s : State) :
    m.before (suspend r k s) = suspend r k (m.before s) := by
  cases m <;> rfl

theorem Micro.after_suspend (m : Micro) (v : Byte) (r : Request) (k : Cont) (s : State) :
    m.after v (suspend r k s) = suspend r k (m.after v s) := by
  cases m <;> rfl

theorem plainAccess_suspend (r q : Request) (k : Cont) (s : State) :
    plainAccess r (suspend q k s) = ((plainAccess r s).1, suspend q k (plainAccess r s).2) := by
  simp only [plainAccess]
  split <;> rfl

/-- From `s` the sequence `l` makes at most `n` requests, none of them to a chip register, and leaves `t`, apart from
the clock and the predictor. -/
def RunsTo (n : Nat) (l : List Micro) (s t : State) : Prop := offChip n l s ∧ calm l s = t

/-- The request under way is overwritten by the next one, or at the fetch boundary. -/
theorem runsTo_suspend {n : Nat} {l : List Micro} {s t : State} (r : Request) (k : Cont) :
    RunsTo n l (suspend r k s) t ↔ RunsTo n l s t := by
  induction l generalizing n s with
  | nil => exact Iff.rfl
  | cons m rest ih =>
    cases hm : m.request s with
    | none =>
      simpa only [RunsTo, offChip, calm, Micro.request_suspend, hm, Micro.after_suspend] using ih
    | some q =>
      cases n <;> simp only [RunsTo, offChip, calm, Micro.request_suspend, hm, Micro.before_suspend] <;> rfl

/-- `s` after byte `v` was written at `a`, off the chip pages: to MAPCTL if `a` is 0xFFF9, and otherwise to RAM. -/
def stored (a : Addr) (v : Byte) (s : State) : State :=
  { s with
    ram := if a = 0xFFF9#16 then s.ram else memWrite s.ram a.toNat v
    mapctl := if a = 0xFFF9#16 then v else s.mapctl }

theorem plainAccess_readReq (a : Addr) (s : State) : plainAccess (readReq a) s = (plainByte s a, s) := rfl

theorem plainAccess_writeReq (a : Addr) (v : Byte) (s : State) :
    plainAccess (writeReq a v) s = (0, stored a v s) := rfl

theorem ramRead_stored {s : State} (a : Addr) (v : Byte) (b : Addr) (h : Memory.wf 65536 s.ram = true) :
    ramRead (stored a v s) b = if b = a ∧ a ≠ 0xFFF9#16 then v else ramRead s b := by
  by_cases ha : a = 0xFFF9#16
  · simp [ramRead, stored, ha]
  · have hw : ramRead (stored a v s) b = ramRead (ramWrite s a v) b := by
      simp only [ramRead, stored, if_neg ha, ramWrite_ram]
    rw [hw, ramRead_ramWrite s a b v h]
    simp only [ne_eq, ha, not_false_eq_true, and_true]

/-! ## One element at a time -/

namespace RunsTo

variable {n : Nat} {m : Micro} {rest : List Micro} {s t : State}

theorem done (h : retire s = t) : RunsTo n [] s t := ⟨trivial, h⟩

theorem internal (hm : m.request s = none) (h : RunsTo n rest (m.after 0 s) t) : RunsTo n (m :: rest) s t := by
  simpa only [RunsTo, offChip, calm, hm] using h

theorem request {r : Request} (hm : m.request s = some r) (hc : onChip s r.addr = false)
    (h : RunsTo n rest (m.after (plainAccess r (m.before s)).1 (plainAccess r (m.before s)).2) t) :
    RunsTo (n + 1) (m :: rest) s t := by
  rw [← runsTo_suspend r (.running (m :: rest)), ← Micro.after_suspend] at h
  obtain ⟨ho, ht⟩ := h
  simp only [RunsTo, offChip, calm, hm, plainAccess_suspend]
  exact ⟨⟨hc, ho⟩, ht⟩

/-- A sequence that ends with what the instruction does to the registers. -/
theorem last {e : Act} {r : Regs} (he : e.apply s.loc s.regs = r) :
    RunsTo n [.act e] s (retire { s with regs := r }) := by
  subst he
  exact internal rfl (done rfl)

/-- The element reads the byte at `a`. -/
theorem read {a : Addr} (hm : m.request s = some (readReq a)) (hc : onChip s a = false)
    (h : RunsTo n rest (m.after (plainByte (m.before s) a) (m.before s)) t) : RunsTo (n + 1) (m :: rest) s t :=
  request hm hc h

/-- The element writes `v` at `a`. -/
theorem write {a : Addr} {v : Byte} (hm : m.request s = some (writeReq a v)) (hc : onChip s a = false)
    (h : RunsTo n rest (m.after 0 (stored a v (m.before s))) t) : RunsTo (n + 1) (m :: rest) s t :=
  request hm hc h

theorem discard {p : Place} (hc : onChip s (p.addr s) = false) (h : RunsTo n rest s t) :
    RunsTo (n + 1) (.discard p :: rest) s t :=
  read rfl hc h

/-- The bound on the requests may be raised. -/
theorem mono {k : Nat} {l : List Micro} (h : RunsTo n l s t) (hk : n ≤ k) : RunsTo k l s t := by
  obtain ⟨ho, ht⟩ := h
  refine ⟨?_, ht⟩
  clear ht
  induction l generalizing n k s with
  | nil => trivial
  | cons m rest ih =>
    cases hm : m.request s with
    | none =>
      simp only [offChip, hm] at ho ⊢
      exact ih hk ho
    | some r =>
      cases n with
      | zero => simp only [offChip, hm] at ho
      | succ n =>
        obtain ⟨k, rfl⟩ := Nat.exists_eq_add_one_of_ne_zero (Nat.ne_of_gt (Nat.lt_of_lt_of_le n.succ_pos hk))
        simp only [offChip, hm] at ho ⊢
        exact ⟨ho.1, ih (Nat.le_of_succ_le_succ hk) ho.2⟩

/-- The request of a page crossing changes nothing, whether it is made or not (40_cpu_machine.md R210). -/
theorem discardIfCrossed {p : Place} (hc : onChip s (p.addr s) = false) (h : RunsTo n rest s t) :
    RunsTo (n + 1) (.discardIfCrossed p :: rest) s t := by
  by_cases hx : s.loc.crossed = true
  · exact read (by simp only [Micro.request, hx, if_true]) hc h
  · exact internal (by simp only [Micro.request, hx]; rfl) (h.mono (Nat.le_succ n))

/-- In a ready state, an instruction whose sequence runs in at most eight requests goes on to the state it runs to. -/
theorem exec_eq_next {i : Instr} (hs : Ready s) (h : RunsTo 8 (program i s.regs) s t) :
    ∃ u, exec i s = .next u ∧ SameButTime t u := by
  obtain ⟨hq, -⟩ := hs
  obtain ⟨ho, ht⟩ := h
  exact ⟨_, Machine.exec_eq_next i s, ht ▸ perform_calm hq ho⟩

end RunsTo

/-! ## How an instruction completes -/

theorem Ready.onChip_pc {s : State} (h : Ready s) : onChip s s.regs.pc = false := h.2.1

theorem Ready.onChip_lastOperand {s : State} (h : Ready s) : onChip s (s.regs.pc - 1) = false := h.2.2.1

theorem Ready.ram_wf {s : State} (h : Ready s) : Memory.wf 65536 s.ram = true := h.2.2.2

section
variable {i : Instr} {s : State} {r : Regs}

theorem completes_of_runsTo (hs : Ready s) (h : RunsTo 8 (program i s.regs) s (retire { s with regs := r })) :
    Completes i s r :=
  h.exec_eq_next hs

theorem completesWriting_of_runsTo {a : Addr} {w : Byte} (hs : Ready s)
    (h : RunsTo 8 (program i s.regs) s (retire { stored a w s with regs := r })) :
    CompletesWriting i s r a w := by
  obtain ⟨u, hu, ht⟩ := h.exec_eq_next hs
  have hram : u.ram = (stored a w s).ram := by rw [ht]; rfl
  refine ⟨u, hu, ?_, fun b => ?_⟩
  · rw [hram]
    exact ht
  · rw [ramRead, hram]
    exact ramRead_stored a w b hs.ram_wf

theorem completesPushing_of_runsTo {w : Byte} (hs : Ready s)
    (h : RunsTo 8 (program i s.regs) s (retire { stored (stackAt s.regs.s) w s with regs := r })) :
    CompletesPushing i s r (pushed (ramRead s) s.regs.s w) := by
  obtain ⟨u, hu, ht, hb⟩ := completesWriting_of_runsTo hs h
  refine ⟨u, hu, ?_, fun b => ?_⟩
  · simpa only [if_neg (stackAt_ne_mapctl s.regs.s)] using ht
  · rw [hb b]
    simp only [ne_eq, stackAt_ne_mapctl, not_false_eq_true, and_true]
    rfl

end

/-! ## Effective addresses (30_encoding.md R161 to R163) -/

/-- `ea` makes at most three requests and leaves `a` as the effective address: what follows it goes on from `s` with
other locals. -/
def Addresses (ea : List Micro) (s : State) (a : Addr) : Prop :=
  ∀ {n : Nat} {rest : List Micro} {t : State},
    (∀ l : Locals, l.ea = a → RunsTo n rest { s with loc := l } t) → RunsTo (n + 3) (ea ++ rest) s t

section
variable {s : State}

theorem pointerAt_plain (s : State) (z : Byte) :
    pointerAt s z = pair (plainByte s (zext (z + 1))) (plainByte s (zext z)) := by
  simp only [pointerAt, byteAt_plain (onChip_zext s _)]

theorem add_zext_zero (a : Addr) : a + zext 0 = a := BitVec.add_zero a

theorem addresses_zp (z : Byte) : Addresses (eaZp z) s (zext z) :=
  fun h => .internal rfl ((h _ rfl).mono (Nat.le_add_right _ 3))

theorem addresses_abs (a : Addr) : Addresses (eaAbs a) s a :=
  fun h => .internal rfl ((h _ rfl).mono (Nat.le_add_right _ 3))

theorem addresses_zpIndexed (hpc : onChip s (s.regs.pc - 1) = false) (z i : Byte) :
    Addresses (eaZpIndexed z i s.regs) s (zext (z + i)) :=
  fun h => .discard hpc (.internal rfl ((h _ rfl).mono (Nat.le_add_right _ 2)))

theorem addresses_absIndexed (hpc : onChip s (s.regs.pc - 1) = false) (always : Bool) (a : Addr) (i : Byte) :
    Addresses (eaAbsIndexed always a i s.regs) s (a + zext i) := by
  intro n rest t h
  simp only [eaAbsIndexed]
  split
  · exact .discard hpc (.internal rfl ((h _ rfl).mono (Nat.le_add_right _ 2)))
  · exact .internal rfl ((h _ rfl).mono (Nat.le_add_right _ 3))

/-- The two reads of a zero-page pointer, and the sum with the index. -/
theorem runsTo_readPointer {n : Nat} {rest : List Micro} {t : State} {z i : Byte}
    (h : ∀ l : Locals, l.ea = pointerAt s z + zext i → RunsTo n rest { s with loc := l } t) :
    RunsTo (n + 2) (readPointer z ++ .pointer i :: rest) s t := by
  rw [pointerAt_plain] at h
  exact .read rfl (onChip_zext s _) (.read rfl (onChip_zext _ _) (.internal rfl (h _ rfl)))

theorem addresses_izx (hpc : onChip s (s.regs.pc - 1) = false) (z : Byte) :
    Addresses (eaIzx z s.regs) s (pointerAt s (z + s.regs.x)) :=
  fun h => .discard hpc (runsTo_readPointer fun l hl => h l (hl.trans (add_zext_zero _)))

theorem addresses_izp (z : Byte) : Addresses (eaIzp z) s (pointerAt s z) :=
  fun h => (runsTo_readPointer fun l hl => h l (hl.trans (add_zext_zero _))).mono (Nat.le_succ _)

theorem addresses_izy (always : Bool) (z : Byte) :
    Addresses (eaIzy always z s.regs) s (pointerAt s z + zext s.regs.y) := by
  intro n rest t h
  refine runsTo_readPointer (n := n + 1) fun l hl => ?_
  cases always with
  | true => exact .discard (onChip_zext _ _) (h l hl)
  | false => exact .discardIfCrossed (onChip_zext _ _) (h l hl)

end

/-! ## Access classes (40_cpu_machine.md R210, R211, R213) -/

section
variable {i : Instr} {s : State} {r : Regs} {e : Act} {ea : List Micro} {a : Addr} {w : Byte}

theorem completes_of_immSeq (hs : Ready s) (hp : program i s.regs = immSeq w e)
    (he : ∀ l : Locals, l.val = w → e.apply l s.regs = r) : Completes i s r := by
  refine completes_of_runsTo hs ?_
  rw [hp]
  exact .internal rfl (.last (he _ rfl))

theorem completes_of_readSeq (hs : Ready s) (ha : Addresses ea s a) (hp : program i s.regs = readSeq ea e)
    (hc : onChip s a = false) (he : ∀ l : Locals, l.val = byteAt s a → e.apply l s.regs = r) :
    Completes i s r := by
  refine completes_of_runsTo hs ?_
  rw [hp]
  refine (ha (n := 1) fun l hl => ?_).mono (by decide)
  subst hl
  exact .read rfl hc (.last (he _ (byteAt_plain hc).symm))

theorem completesWriting_of_writeSeq (hs : Ready s) (ha : Addresses ea s a) (hp : program i s.regs = writeSeq ea w)
    (hc : onChip s a = false) : CompletesWriting i s s.regs a w := by
  refine completesWriting_of_runsTo hs ?_
  rw [hp]
  refine (ha (n := 1) fun l hl => ?_).mono (by decide)
  subst hl
  exact .write rfl hc (.done rfl)

theorem completes_of_impliedSeq (hs : Ready s) (hp : program i s.regs = impliedSeq e)
    (he : e.apply s.loc s.regs = r) : Completes i s r := by
  refine completes_of_runsTo hs (RunsTo.mono (n := 1) ?_ (by decide))
  rw [hp]
  exact .discard hs.onChip_pc (.last he)

theorem completesPushing_of_pushSeq (hs : Ready s) (hp : program i s.regs = pushSeq w) :
    CompletesPushing i s { s.regs with s := s.regs.s - 1 } (pushed (ramRead s) s.regs.s w) := by
  refine completesPushing_of_runsTo hs (RunsTo.mono (n := 2) ?_ (by decide))
  rw [hp]
  exact .discard hs.onChip_pc (.write rfl (onChip_stackAt s _) (.done rfl))

theorem plainByte_stackAt (s : State) (k : Byte) : plainByte s (stackAt (s.regs.s + k)) = stackByte s k :=
  (byteAt_plain (onChip_stackAt s _)).symm.trans (byteAt_low s (stackAt_lt _))

theorem completes_of_pullSeq (hs : Ready s) (hp : program i s.regs = pullSeq e)
    (he : ∀ l : Locals, l.val = stackByte s 1 → e.apply l { s.regs with s := s.regs.s + 1 } = r) :
    Completes i s r := by
  refine completes_of_runsTo hs (RunsTo.mono (n := 3) ?_ (by decide))
  rw [hp]
  exact .discard hs.onChip_pc (.discard (onChip_stackAt s _)
    (.read rfl (onChip_stackAt s _) (.last (he _ (plainByte_stackAt s 1)))))

end

/-- In each of the nine forms the operation is the read class that ends with `e` (40_cpu_machine.md R210). -/
structure NineForms.ReadClass (F : NineForms) (e : Act) : Prop where
  imm : ∀ z r, program (F.imm z) r = immSeq z e
  zp : ∀ z r, program (F.zp z) r = readSeq (eaZp z) e
  zpx : ∀ z r, program (F.zpx z) r = readSeq (eaZpIndexed z r.x r) e
  izx : ∀ z r, program (F.izx z) r = readSeq (eaIzx z r) e
  izy : ∀ z r, program (F.izy z) r = readSeq (eaIzy false z r) e
  izp : ∀ z r, program (F.izp z) r = readSeq (eaIzp z) e
  abs : ∀ a r, program (F.abs a) r = readSeq (eaAbs a) e
  abx : ∀ a r, program (F.abx a) r = readSeq (eaAbsIndexed false a r.x r) e
  aby : ∀ a r, program (F.aby a) r = readSeq (eaAbsIndexed false a r.y r) e

/-- An operation of the read class does in every form what its `e` does with the byte read. -/
theorem NineForms.ReadClass.readsAs {F : NineForms} {e : Act} {f : Regs → Byte → Regs} (h : F.ReadClass e)
    (he : ∀ (l : Locals) (r : Regs), e.apply l r = f r l.val) : ReadsAs F f := by
  intro s z a hs
  have hpc := hs.onChip_lastOperand
  have hval : ∀ v (l : Locals), l.val = v → e.apply l s.regs = f s.regs v := fun _ l hl => hl ▸ he l s.regs
  have hread {ea : List Micro} {b : Addr} {i : Instr} (ha : Addresses ea s b)
      (hp : program i s.regs = readSeq ea e) (hc : onChip s b = false) :
      Completes i s (f s.regs (byteAt s b)) :=
    completes_of_readSeq hs ha hp hc (hval _)
  exact
    ⟨completes_of_immSeq hs (h.imm z _) (hval z),
      hread (addresses_zp z) (h.zp z _) (onChip_zext s _),
      hread (addresses_zpIndexed hpc z _) (h.zpx z _) (onChip_zext s _),
      hread (addresses_izx hpc z) (h.izx z _),
      hread (addresses_izy false z) (h.izy z _),
      hread (addresses_izp z) (h.izp z _),
      hread (addresses_abs a) (h.abs a _),
      hread (addresses_absIndexed hpc false a _) (h.abx a _),
      hread (addresses_absIndexed hpc false a _) (h.aby a _)⟩

end Sys2Proof.Machine
end

section
/-! Proofs for the family of 41_load_store_transfer.md: the loads, the stores, the transfers and the flag instructions,
the pushes and the pulls, each by the rule of its access class. -/

namespace Sys2Proof.Machine

/-! ## Loads (R261 to R263) -/

theorem Regs.load_eq (r : Regs) (n : Reg) (v : Byte) : r.load n v = { r.set n v with p := withNZ r.p v } := by
  rw [Regs.load, setNZ_eq_withNZ]

theorem lda_readClass : ldaForms.ReadClass (.load .a) := by
  constructor <;> exact fun _ _ => rfl

/-- Settles O6: LDA is of the read class in all nine forms. -/
theorem ldaCompletes : Obligations.LdaCompletes :=
  lda_readClass.readsAs fun l r => r.load_eq .a l.val

/-- Settles O7: the immediate forms load the operand, and the others are of the read class. -/
theorem ldxLdyComplete : Obligations.LdxLdyComplete := by
  intro s z a hs ldx ldy
  have hpc := hs.onChip_lastOperand
  have hx : ∀ v (l : Locals), l.val = v → (Act.load .x).apply l s.regs = ldx v :=
    fun _ l hl => hl ▸ s.regs.load_eq .x l.val
  have hy : ∀ v (l : Locals), l.val = v → (Act.load .y).apply l s.regs = ldy v :=
    fun _ l hl => hl ▸ s.regs.load_eq .y l.val
  exact
    ⟨completes_of_immSeq hs rfl (hx z),
      completes_of_readSeq hs (addresses_zp z) rfl (onChip_zext s _) (hx _),
      completes_of_readSeq hs (addresses_zpIndexed hpc z _) rfl (onChip_zext s _) (hx _),
      fun hc => completes_of_readSeq hs (addresses_abs a) rfl hc (hx _),
      fun hc => completes_of_readSeq hs (addresses_absIndexed hpc false a _) rfl hc (hx _),
      completes_of_immSeq hs rfl (hy z),
      completes_of_readSeq hs (addresses_zp z) rfl (onChip_zext s _) (hy _),
      completes_of_readSeq hs (addresses_zpIndexed hpc z _) rfl (onChip_zext s _) (hy _),
      fun hc => completes_of_readSeq hs (addresses_abs a) rfl hc (hy _),
      fun hc => completes_of_readSeq hs (addresses_absIndexed hpc false a _) rfl hc (hy _)⟩

/-! ## Stores (R264 to R267) -/

/-- Settles O8: every form writes A, at the address its operand form leaves. -/
theorem staCompletes : Obligations.StaCompletes := by
  intro s z a hs
  have hpc := hs.onChip_lastOperand
  exact
    ⟨completesWriting_of_writeSeq hs (addresses_zp z) rfl (onChip_zext s _),
      completesWriting_of_writeSeq hs (addresses_zpIndexed hpc z _) rfl (onChip_zext s _),
      completesWriting_of_writeSeq hs (addresses_abs a) rfl,
      completesWriting_of_writeSeq hs (addresses_absIndexed hpc true a _) rfl,
      completesWriting_of_writeSeq hs (addresses_absIndexed hpc true a _) rfl,
      completesWriting_of_writeSeq hs (addresses_izx hpc z) rfl,
      completesWriting_of_writeSeq hs (addresses_izy true z) rfl,
      completesWriting_of_writeSeq hs (addresses_izp z) rfl⟩

/-- Settles O9: every form writes X, Y or zero, at the address its operand form leaves. -/
theorem stxStyStzComplete : Obligations.StxStyStzComplete := by
  intro s z a hs
  have hpc := hs.onChip_lastOperand
  exact
    ⟨completesWriting_of_writeSeq hs (addresses_zp z) rfl (onChip_zext s _),
      completesWriting_of_writeSeq hs (addresses_zpIndexed hpc z _) rfl (onChip_zext s _),
      completesWriting_of_writeSeq hs (addresses_abs a) rfl,
      completesWriting_of_writeSeq hs (addresses_zp z) rfl (onChip_zext s _),
      completesWriting_of_writeSeq hs (addresses_zpIndexed hpc z _) rfl (onChip_zext s _),
      completesWriting_of_writeSeq hs (addresses_abs a) rfl,
      completesWriting_of_writeSeq hs (addresses_zp z) rfl (onChip_zext s _),
      completesWriting_of_writeSeq hs (addresses_zpIndexed hpc z _) rfl (onChip_zext s _),
      completesWriting_of_writeSeq hs (addresses_abs a) rfl,
      completesWriting_of_writeSeq hs (addresses_absIndexed hpc true a _) rfl⟩

/-! ## Registers and flags (R268 to R273; 42_alu.md R317 to R320; 45_system_flags_nop.md R421 to R427) -/

/-- Settles O10: each is an implied form; a transfer, increment or decrement loads its register with a byte made of
the registers, and the others leave N and Z alone. -/
theorem registerOpsComplete : Obligations.RegisterOpsComplete := by
  intro s hs r
  have hload {i : Instr} {e : Act} {n : Reg} {v : Byte} (hp : program i r = impliedSeq e)
      (he : e.apply s.loc r = r.load n v) : Completes i s { r.set n v with p := withNZ r.p v } :=
    completes_of_impliedSeq hs hp (he.trans (r.load_eq n v))
  exact
    ⟨hload (n := .x) (v := r.a) rfl rfl,
      hload (n := .y) (v := r.a) rfl rfl,
      hload (n := .a) (v := r.x) rfl rfl,
      hload (n := .a) (v := r.y) rfl rfl,
      hload (n := .x) (v := r.s) rfl rfl,
      completes_of_impliedSeq hs rfl rfl,
      hload (n := .x) (v := r.x + 1) rfl rfl,
      hload (n := .y) (v := r.y + 1) rfl rfl,
      hload (n := .x) (v := r.x - 1) rfl rfl,
      hload (n := .y) (v := r.y - 1) rfl rfl,
      completes_of_impliedSeq hs rfl rfl,
      completes_of_impliedSeq hs rfl rfl,
      completes_of_impliedSeq hs rfl rfl,
      completes_of_impliedSeq hs rfl rfl,
      completes_of_impliedSeq hs rfl rfl,
      completes_of_impliedSeq hs rfl rfl,
      completes_of_impliedSeq hs rfl rfl⟩

/-! ## The stack (R274 to R281; 10_state.md R26) -/

theorem toByte_eq_statusByte (p : Flags) (b : Bool) : p.toByte b = statusByte p b := by
  obtain ⟨n, v, d, i, z, c⟩ := p
  revert n v d i z c b
  decide

/-- Settles O11: the pushes and the pulls are of the two classes of R213, and the byte PHP pushes is P by weights. -/
theorem stackOpsComplete : Obligations.StackOpsComplete := by
  intro s hs r v
  have hpull (n : Reg) (l : Locals) (hl : l.val = v) :
      (Act.load n).apply l { r with s := r.s + 1 } =
        { ({ r with s := r.s + 1 } : Regs).set n v with p := withNZ r.p v } :=
    hl ▸ Regs.load_eq _ n l.val
  exact
    ⟨completesPushing_of_pushSeq hs rfl,
      completesPushing_of_pushSeq hs rfl,
      completesPushing_of_pushSeq hs rfl,
      toByte_eq_statusByte r.p true ▸ completesPushing_of_pushSeq hs rfl,
      completes_of_pullSeq hs rfl (hpull .a),
      completes_of_pullSeq hs rfl (hpull .x),
      completes_of_pullSeq hs rfl (hpull .y),
      completes_of_pullSeq hs rfl fun _ hl => congrArg (fun w => { r with s := r.s + 1, p := pulledFlags w }) hl⟩

end Sys2Proof.Machine
end

section
/-! Proofs for the family of 42_alu.md: the binary and the decimal sum and difference (R301 to R304) as arithmetic on
numbers, and on BCD digits as decimal arithmetic. -/

namespace Sys2Proof.Machine

/-! ## Bytes as numbers -/

theorem toInt_eq_or (x : Byte) :
    x.toNat < 128 ∧ x.toInt = x.toNat ∨ 128 ≤ x.toNat ∧ x.toInt = (x.toNat : Int) - 256 := by
  have hx := x.isLt
  rw [BitVec.toInt_eq_toNat_cond]
  split <;> omega

theorem msb_iff_le_toNat (x : Byte) : x.msb = true ↔ 128 ≤ x.toNat := by
  rw [BitVec.msb_eq_decide, decide_eq_true_iff]

theorem and_80_ne_zero (x : Byte) : ((x &&& 0x80) != 0) = x.msb := by
  revert x
  decide

theorem toNat_and_F0 (x : Byte) : (x &&& 0xF0).toNat = 16 * (x.toNat / 16) := by
  revert x
  decide

theorem toInt_not_byte (x : Byte) : (~~~x).toInt = -1 - x.toInt := by
  have hn := BitVec.toNat_not (x := x)
  have hx := toInt_eq_or x
  have hy := toInt_eq_or (~~~x)
  omega

/-! ## Binary sums and differences (R301, R303) -/

theorem addBin_toNat (a b : Byte) (c : Bool) :
    (addBin a b c).value.toNat + 256 * (addBin a b c).c.toNat = a.toNat + b.toNat + c.toNat := by
  have ha := a.isLt
  have hb := b.isLt
  have hc := c.toNat_le
  simp only [addBin, BitVec.toNat_ofNat, Bool.toNat, Bool.cond_decide] at hc ⊢
  split <;> omega

/-- V says that the operands have one sign and the result the other. -/
theorem addBin_v_iff_msb (a b : Byte) (c : Bool) :
    (addBin a b c).v = true ↔
      (a.msb = true ↔ b.msb = true) ∧ ¬(a.msb = true ↔ (addBin a b c).value.msb = true) := by
  have hv : (addBin a b c).v = (!(a.msb ^^ b.msb) && (a.msb ^^ (addBin a b c).value.msb)) := by
    simp only [addBin, and_80_ne_zero, BitVec.msb_and, BitVec.msb_not, BitVec.msb_xor, Nat.zero_lt_succ, decide_true,
      Bool.true_and]
  rw [hv]
  generalize a.msb = x, b.msb = y, (addBin a b c).value.msb = z
  revert x y z
  decide

theorem addBin_v_iff (a b : Byte) (c : Bool) :
    (addBin a b c).v = true ↔
      a.toInt + b.toInt + (c.toNat : Int) < -128 ∨ 127 < a.toInt + b.toInt + (c.toNat : Int) := by
  have hsum := addBin_toNat a b c
  have hcarry := (addBin a b c).c.toNat_le
  have hc := c.toNat_le
  have ha := toInt_eq_or a
  have hb := toInt_eq_or b
  have hr := (addBin a b c).value.isLt
  rw [addBin_v_iff_msb, msb_iff_le_toNat, msb_iff_le_toNat, msb_iff_le_toNat]
  omega

theorem addBin_c_iff (a b : Byte) (c : Bool) :
    (addBin a b c).c = true ↔ 256 ≤ a.toNat + b.toNat + c.toNat := decide_eq_true_iff

theorem subBin_eq_addBin_not (a b : Byte) (c : Bool) : subBin a b c = addBin a (~~~b) c := by
  rw [subBin, xor_FF]

theorem subBin_value (a b : Byte) (c : Bool) : (subBin a b c).value = a - b - (if c then 0 else 1) := by
  have hv : (subBin a b c).value = a + ~~~b + BitVec.ofNat 8 c.toNat := by
    rw [subBin_eq_addBin_not]
    simp only [addBin, BitVec.ofNat_add, BitVec.ofNat_toNat, BitVec.setWidth_eq]
  rw [hv]
  cases c with
  | false => simp only [Bool.toNat_false, Bool.false_eq_true, if_false]; bv_omega
  | true => simp only [Bool.toNat_true, if_true]; bv_omega

theorem subBin_c_iff (a b : Byte) (c : Bool) :
    (subBin a b c).c = true ↔ b.toNat + (1 - c.toNat) ≤ a.toNat := by
  have hb := b.isLt
  have hc := c.toNat_le
  rw [subBin_eq_addBin_not, addBin_c_iff, BitVec.toNat_not]
  omega

theorem subBin_v_iff (a b : Byte) (c : Bool) :
    (subBin a b c).v = true ↔
      a.toInt - b.toInt - 1 + (c.toNat : Int) < -128 ∨ 127 < a.toInt - b.toInt - 1 + (c.toNat : Int) := by
  rw [subBin_eq_addBin_not, addBin_v_iff, toInt_not_byte]
  omega

/-! ## Decimal sums (R302) -/

/-- The low digit of a decimal sum, with the carry out of it as a 16. -/
def decimalLow (a b : Byte) (c : Bool) : Nat :=
  let low := a.toNat % 16 + b.toNat % 16 + c.toNat
  if low < 10 then low else (low + 6) % 16 + 16

/-- A decimal sum before its high digit is corrected. -/
def decimalSum (a b : Byte) (c : Bool) : Nat :=
  16 * (a.toNat / 16) + 16 * (b.toNat / 16) + decimalLow a b c

theorem decimalLow_eq (a b : Byte) (c : Bool) :
    (if a.toNat % 16 + b.toNat % 16 + c.toNat ≥ 0x0A then (a.toNat % 16 + b.toNat % 16 + c.toNat + 0x06) % 16 + 0x10
      else a.toNat % 16 + b.toNat % 16 + c.toNat) = decimalLow a b c := by
  simp only [decimalLow, ge_iff_le, ← Nat.not_lt, ite_not]

theorem decimalSum_eq (a b : Byte) (c : Bool) :
    (a &&& 0xF0).toNat + (b &&& 0xF0).toNat + decimalLow a b c = decimalSum a b c := by
  rw [toNat_and_F0, toNat_and_F0, decimalSum]

theorem addDec_value (a b : Byte) (c : Bool) :
    (addDec a b c).value =
      BitVec.ofNat 8 (if decimalSum a b c < 0xA0 then decimalSum a b c else decimalSum a b c + 0x60) := by
  simp only [addDec, decimalLow_eq, decimalSum_eq]
  simp only [ge_iff_le, ← Nat.not_lt, ite_not]

theorem addDec_c_iff (a b : Byte) (c : Bool) : (addDec a b c).c = true ↔ 0xA0 ≤ decimalSum a b c := by
  simp only [addDec, decimalLow_eq, decimalSum_eq, decide_eq_true_iff]
  split <;> omega

theorem addDec_v_iff (a b : Byte) (c : Bool) :
    let signed := (a &&& 0xF0).toInt + (b &&& 0xF0).toInt + (decimalLow a b c : Int)
    (addDec a b c).v = true ↔ signed < -128 ∨ 127 < signed := by
  simp only [addDec, decimalLow_eq, decide_eq_true_iff, gt_iff_lt]

/-! ## Decimal differences (R304) -/

theorem ofInt_sub_byte (i j : Int) : BitVec.ofInt 8 (i - j) = BitVec.ofInt 8 i - BitVec.ofInt 8 j := by
  rw [Int.sub_eq_add_neg, BitVec.ofInt_add, BitVec.ofInt_neg, BitVec.sub_eq_add_neg]

theorem subDec_value_ofInt (a b : Byte) (c : Bool) :
    let borrow := 1 - c.toNat
    (subDec a b c).value =
      BitVec.ofInt 8 ((a.toNat : Int) - b.toNat - borrow - (if a.toNat < b.toNat + borrow then 0x60 else 0) -
        (if a.toNat % 16 < b.toNat % 16 + borrow then 0x06 else 0)) := by
  intro borrow
  have hb : (borrow : Int) = 1 - c.toNat := by
    have hc := c.toNat_le
    omega
  have hdiff : (a.toNat : Int) - b.toNat + c.toNat - 1 = a.toNat - b.toNat - borrow := by omega
  have hhigh : (a.toNat : Int) - b.toNat - borrow < 0 ↔ a.toNat < b.toNat + borrow := by omega
  have hlow : ((a.toNat % 16 : Nat) : Int) - (b.toNat % 16 : Nat) + c.toNat - 1 < 0 ↔
      a.toNat % 16 < b.toNat % 16 + borrow := by omega
  have hite (p : Prop) [Decidable p] (i j : Int) : (if p then i - j else i) = i - if p then j else 0 := by
    split <;> omega
  simp only [subDec, hdiff, hhigh, hlow, hite]

theorem subDec_value (a b : Byte) (c : Bool) :
    let borrow := 1 - c.toNat
    (subDec a b c).value =
      a - b - BitVec.ofNat 8 borrow - (if a.toNat < b.toNat + borrow then 0x60 else 0) -
        (if a.toNat % 16 < b.toNat % 16 + borrow then 0x06 else 0) := by
  simp only [subDec_value_ofInt, ofInt_sub_byte, BitVec.ofInt_natCast, BitVec.ofNat_toNat, BitVec.setWidth_eq,
    apply_ite (BitVec.ofInt 8)]
  rfl

/-! ## BCD digits -/

theorem bcd_toNat {n : Nat} (h : n < 100) : (bcd n).toNat = 16 * (n / 10) + n % 10 := by
  rw [bcd, BitVec.toNat_ofNat]
  omega

theorem bcd_toNat_mod {n : Nat} (h : n < 100) : (bcd n).toNat % 16 = n % 10 := by
  rw [bcd_toNat h]
  omega

theorem decimalLow_bcd {x y : Nat} (c : Bool) (hx : x < 100) (hy : y < 100) :
    decimalLow (bcd x) (bcd y) c = if x % 10 + y % 10 + c.toNat < 10 then x % 10 + y % 10 + c.toNat else
      x % 10 + y % 10 + c.toNat + 6 := by
  have hc := c.toNat_le
  simp only [decimalLow, bcd_toNat_mod hx, bcd_toNat_mod hy]
  split <;> omega

/-- On BCD digits the sum is that of the numbers, with 6 added for the carry out of the low digits. -/
theorem decimalSum_bcd {x y : Nat} (c : Bool) (hx : x < 100) (hy : y < 100) :
    decimalSum (bcd x) (bcd y) c = 16 * ((x + y + c.toNat) / 10) + (x + y + c.toNat) % 10 := by
  have hc := c.toNat_le
  rw [decimalSum, bcd_toNat hx, bcd_toNat hy, decimalLow_bcd c hx hy]
  split <;> omega

theorem addDec_bcd_value {x y : Nat} (c : Bool) (hx : x < 100) (hy : y < 100) :
    (addDec (bcd x) (bcd y) c).value = bcd ((x + y + c.toNat) % 100) := by
  have hc := c.toNat_le
  rw [addDec_value, decimalSum_bcd c hx hy]
  have ht : x + y + c.toNat < 200 := by omega
  generalize x + y + c.toNat = t at ht
  apply BitVec.eq_of_toNat_eq
  rw [bcd_toNat (Nat.mod_lt _ (by decide)), BitVec.toNat_ofNat]
  by_cases h : t < 100
  · rw [if_pos (by omega), Nat.mod_eq_of_lt h]
    omega
  · have hm : t % 100 = t - 100 := by omega
    rw [if_neg (by omega), hm]
    omega

theorem addDec_bcd_c_iff {x y : Nat} (c : Bool) (hx : x < 100) (hy : y < 100) :
    (addDec (bcd x) (bcd y) c).c = true ↔ 100 ≤ x + y + c.toNat := by
  rw [addDec_c_iff, decimalSum_bcd c hx hy]
  omega

theorem ofInt_eq_ofNat {i : Int} {n : Nat} (h : i % 256 = n % 256) : BitVec.ofInt 8 i = BitVec.ofNat 8 n := by
  apply BitVec.eq_of_toNat_eq
  rw [BitVec.toNat_ofInt, BitVec.toNat_ofNat]
  omega

/-- A borrow out of the units takes 6 from the difference of the bytes; one out of the tens takes 0x60, modulo 256. -/
theorem bcd_sub_correction {x y b : Nat} (hx : x < 100) (hy : y < 100) (hb : b ≤ 1) :
    let r := (x + 100 - (y + b)) % 100
    ((16 * (x / 10) + x % 10 : Nat) : Int) - (16 * (y / 10) + y % 10 : Nat) - b - (if x < y + b then 0x60 else 0) -
        (if x % 10 < y % 10 + b then 0x06 else 0) =
      (16 * (r / 10) + r % 10 : Nat) - (if x < y + b then 0x100 else 0) := by
  intro r
  by_cases h : x < y + b
  · have hr : r = x + 100 - (y + b) := by omega
    rw [hr, if_pos h, if_pos h]
    split <;> omega
  · have hr : r = x - (y + b) := by omega
    rw [hr, if_neg h, if_neg h]
    split <;> omega

theorem subDec_bcd_value {x y : Nat} (c : Bool) (hx : x < 100) (hy : y < 100) :
    (subDec (bcd x) (bcd y) c).value = bcd ((x + 99 + c.toNat - y) % 100) := by
  have hc := c.toNat_le
  have hr : x + 99 + c.toNat - y = x + 100 - (y + (1 - c.toNat)) := by omega
  rw [subDec_value_ofInt, hr]
  have hb : 1 - c.toNat ≤ 1 := Nat.sub_le 1 _
  generalize 1 - c.toNat = b at hb
  have hhigh : 16 * (x / 10) + x % 10 < 16 * (y / 10) + y % 10 + b ↔ x < y + b := by omega
  apply ofInt_eq_ofNat
  simp only [bcd_toNat_mod hx, bcd_toNat_mod hy]
  simp only [bcd_toNat hx, bcd_toNat hy, hhigh, bcd_sub_correction hx hy hb]
  split <;> omega

theorem subDec_bcd_c_iff {x y : Nat} (c : Bool) (hx : x < 100) (hy : y < 100) :
    (subDec (bcd x) (bcd y) c).c = true ↔ y + (1 - c.toNat) ≤ x := by
  have hc : (subDec (bcd x) (bcd y) c).c = (subBin (bcd x) (bcd y) c).c := rfl
  rw [hc, subBin_c_iff, bcd_toNat hx, bcd_toNat hy]
  omega

/-- Settles O15: each clause is one of the laws above. -/
theorem arithmeticIsRight : Obligations.ArithmeticIsRight := by
  refine ⟨fun a b c => ?_, fun a b c => ?_, fun a b c => ?_, fun x y c hx hy => ?_⟩
  · exact ⟨addBin_toNat a b c, addBin_v_iff a b c, subBin_value a b c, subBin_c_iff a b c, subBin_v_iff a b c⟩
  · exact ⟨addDec_value a b c, addDec_c_iff a b c, addDec_v_iff a b c⟩
  · exact ⟨subDec_value a b c, rfl, rfl⟩
  · exact ⟨addDec_bcd_value c hx hy, addDec_bcd_c_iff c hx hy, subDec_bcd_value c hx hy, subDec_bcd_c_iff c hx hy⟩

end Sys2Proof.Machine
end

section
/-! Proofs for the family of 42_alu.md: ADC and SBC with the extra request of decimal mode, the logic instructions, the
compares, the bit test and the increments and decrements, each by the rule of its access class. -/

namespace Sys2Proof.Machine

/-! ## Logic (R307 to R309) -/

theorem and_readClass : andForms.ReadClass .and := by
  constructor <;> exact fun _ _ => rfl

theorem ora_readClass : oraForms.ReadClass .ora := by
  constructor <;> exact fun _ _ => rfl

theorem eor_readClass : eorForms.ReadClass .eor := by
  constructor <;> exact fun _ _ => rfl

/-- Settles O12: the three operations are of the read class in all nine forms, and each loads A. -/
theorem logicCompletes : Obligations.LogicCompletes :=
  ⟨and_readClass.readsAs fun l r => r.load_eq .a (r.a &&& l.val),
    ora_readClass.readsAs fun l r => r.load_eq .a (r.a ||| l.val),
    eor_readClass.readsAs fun l r => r.load_eq .a (r.a ^^^ l.val)⟩

/-! ## ADC and SBC (R305, R306; 40_cpu_machine.md R208) -/

section
variable {i : Instr} {s : State} {r : Regs} {e : Act} {ea : List Micro} {a : Addr} {v : Byte}

/-- The extra request of decimal mode reads again at the effective address, and changes nothing. -/
theorem runsTo_decimalExtra {n : Nat} {rest : List Micro} {t : State} (q : Regs) (hc : onChip s s.loc.ea = false)
    (h : RunsTo n rest s t) : RunsTo (n + 1) (decimalExtra q ++ rest) s t := by
  simp only [decimalExtra]
  split
  · exact .discard hc h
  · exact h.mono (Nat.le_succ n)

theorem completes_of_arithImmSeq (hs : Ready s) (hp : program i s.regs = arithImmSeq v e s.regs)
    (he : ∀ l : Locals, l.val = v → e.apply l s.regs = r) : Completes i s r := by
  refine completes_of_runsTo hs (RunsTo.mono (n := 1) ?_ (by decide))
  rw [hp]
  exact .internal rfl (.internal rfl (runsTo_decimalExtra s.regs hs.onChip_lastOperand (.last (he _ rfl))))

theorem completes_of_arithSeq (hs : Ready s) (ha : Addresses ea s a) (hp : program i s.regs = arithSeq ea e s.regs)
    (hc : onChip s a = false) (he : ∀ l : Locals, l.val = byteAt s a → e.apply l s.regs = r) :
    Completes i s r := by
  refine completes_of_runsTo hs ?_
  rw [hp, arithSeq, List.append_assoc, List.append_assoc]
  refine (ha (n := 2) fun l hl => ?_).mono (by decide)
  subst hl
  exact .read rfl hc (runsTo_decimalExtra s.regs hc (.last (he _ (byteAt_plain hc).symm)))

end

/-- In each of the nine forms the operation is the arithmetic class that ends with `e` (40_cpu_machine.md R208). -/
structure NineForms.ArithClass (F : NineForms) (e : Act) : Prop where
  imm : ∀ z r, program (F.imm z) r = arithImmSeq z e r
  zp : ∀ z r, program (F.zp z) r = arithSeq (eaZp z) e r
  zpx : ∀ z r, program (F.zpx z) r = arithSeq (eaZpIndexed z r.x r) e r
  izx : ∀ z r, program (F.izx z) r = arithSeq (eaIzx z r) e r
  izy : ∀ z r, program (F.izy z) r = arithSeq (eaIzy false z r) e r
  izp : ∀ z r, program (F.izp z) r = arithSeq (eaIzp z) e r
  abs : ∀ a r, program (F.abs a) r = arithSeq (eaAbs a) e r
  abx : ∀ a r, program (F.abx a) r = arithSeq (eaAbsIndexed false a r.x r) e r
  aby : ∀ a r, program (F.aby a) r = arithSeq (eaAbsIndexed false a r.y r) e r

/-- An operation of the arithmetic class does in every form what its `e` does with the byte read. -/
theorem NineForms.ArithClass.readsAs {F : NineForms} {e : Act} {f : Regs → Byte → Regs} (h : F.ArithClass e)
    (he : ∀ (l : Locals) (r : Regs), e.apply l r = f r l.val) : ReadsAs F f := by
  intro s z a hs
  have hpc := hs.onChip_lastOperand
  have hval : ∀ v (l : Locals), l.val = v → e.apply l s.regs = f s.regs v := fun _ l hl => hl ▸ he l s.regs
  have hread {ea : List Micro} {b : Addr} {i : Instr} (ha : Addresses ea s b)
      (hp : program i s.regs = arithSeq ea e s.regs) (hc : onChip s b = false) :
      Completes i s (f s.regs (byteAt s b)) :=
    completes_of_arithSeq hs ha hp hc (hval _)
  exact
    ⟨completes_of_arithImmSeq hs (h.imm z _) (hval z),
      hread (addresses_zp z) (h.zp z _) (onChip_zext s _),
      hread (addresses_zpIndexed hpc z _) (h.zpx z _) (onChip_zext s _),
      hread (addresses_izx hpc z) (h.izx z _),
      hread (addresses_izy false z) (h.izy z _),
      hread (addresses_izp z) (h.izp z _),
      hread (addresses_abs a) (h.abs a _),
      hread (addresses_absIndexed hpc false a _) (h.abx a _),
      hread (addresses_absIndexed hpc false a _) (h.aby a _)⟩

theorem adc_arithClass : adcForms.ArithClass .adc := by
  constructor <;> exact fun _ _ => rfl

theorem sbc_arithClass : sbcForms.ArithClass .sbc := by
  constructor <;> exact fun _ _ => rfl

theorem aluFlags_eq (p : Flags) (q : AluResult) : aluFlags p q = { withNZ p q.value with c := q.c, v := q.v } := by
  rw [aluFlags, setNZ_eq_withNZ]

/-- Settles O13: ADC is of the arithmetic class in all nine forms, and D chooses the sum. -/
theorem adcCompletes : Obligations.AdcCompletes :=
  adc_arithClass.readsAs fun l r =>
    congrArg (fun p => { r with a := (adcResult r.p r.a l.val).value, p := p }) (aluFlags_eq r.p _)

/-- Settles O14: SBC is of the arithmetic class in all nine forms, and D chooses the difference. -/
theorem sbcCompletes : Obligations.SbcCompletes :=
  sbc_arithClass.readsAs fun l r =>
    congrArg (fun p => { r with a := (sbcResult r.p r.a l.val).value, p := p }) (aluFlags_eq r.p _)

/-! ## Compares (R310 to R313) -/

theorem cmpFlags_eq (p : Flags) (x v : Byte) :
    cmpFlags p x v = { withNZ p (x - v) with c := decide (v.toNat ≤ x.toNat) } := by
  rw [cmpFlags, setNZ_eq_withNZ]
  rfl

theorem cmp_readClass : cmpForms.ReadClass (.cmp .a) := by
  constructor <;> exact fun _ _ => rfl

/-- Settles O16: CMP, CPX and CPY are of the read class, and write the flags of the compare law alone. -/
theorem comparesComplete : Obligations.ComparesComplete := by
  unfold Obligations.ComparesComplete
  intro cmp
  have hcmp (n : Reg) (l : Locals) (r : Regs) : (Act.cmp n).apply l r = cmp r (r.get n) l.val :=
    congrArg (fun p => { r with p := p }) (cmpFlags_eq r.p (r.get n) l.val)
  refine ⟨cmp_readClass.readsAs (hcmp .a), ?_⟩
  intro s z a hs r
  have hval (n : Reg) (v : Byte) (l : Locals) (hl : l.val = v) : (Act.cmp n).apply l r = cmp r (r.get n) v :=
    hl ▸ hcmp n l r
  exact
    ⟨completes_of_immSeq hs rfl (hval .x z),
      completes_of_readSeq hs (addresses_zp z) rfl (onChip_zext s _) (hval .x _),
      fun hc => completes_of_readSeq hs (addresses_abs a) rfl hc (hval .x _),
      completes_of_immSeq hs rfl (hval .y z),
      completes_of_readSeq hs (addresses_zp z) rfl (onChip_zext s _) (hval .y _),
      fun hc => completes_of_readSeq hs (addresses_abs a) rfl hc (hval .y _)⟩

/-! ## The bit test (R314) -/

theorem testFlags_eq (p : Flags) (a v : Byte) : testFlags p a v = { p with z := decide (a &&& v = 0) } := by
  rw [testFlags, beq_eq_decide]

theorem bitFlags_eq (p : Flags) (a v : Byte) :
    bitFlags p a v = { p with z := decide (a &&& v = 0), n := v.msb, v := v.getLsbD 6 } := by
  rw [bitFlags, beq_eq_decide, msb_eq_bit_seven]

/-- Settles O17: BIT is of the read class, and its immediate form ends with the test of Z alone. -/
theorem bitCompletes : Obligations.BitCompletes := by
  intro s z a hs r bit
  have hpc := hs.onChip_lastOperand
  have himm (l : Locals) (hl : l.val = z) :
      Act.bitImm.apply l r = { r with p := { r.p with z := decide (r.a &&& z = 0) } } :=
    hl ▸ congrArg (fun p => { r with p := p }) (testFlags_eq r.p r.a l.val)
  have hbit (v : Byte) (l : Locals) (hl : l.val = v) : Act.bit.apply l r = bit v :=
    hl ▸ congrArg (fun p => { r with p := p }) (bitFlags_eq r.p r.a l.val)
  exact
    ⟨completes_of_immSeq hs rfl himm,
      completes_of_readSeq hs (addresses_zp z) rfl (onChip_zext s _) (hbit _),
      completes_of_readSeq hs (addresses_zpIndexed hpc z _) rfl (onChip_zext s _) (hbit _),
      fun hc => completes_of_readSeq hs (addresses_abs a) rfl hc (hbit _),
      fun hc => completes_of_readSeq hs (addresses_absIndexed hpc false a _) rfl hc (hbit _)⟩

/-! ## Read-modify-write off the chip pages (40_cpu_machine.md R212) -/

theorem completesWriting_of_rmwSeq {i : Instr} {s : State} {ea : List Micro} {a : Addr} {op : Rmw} (hs : Ready s)
    (ha : Addresses ea s a) (hp : program i s.regs = rmwSeq ea op) (hc : onChip s a = false) :
    CompletesWriting i s { s.regs with p := rmwFlags op s.regs.p s.regs.a (byteAt s a) } a
      (rmwValue op s.regs.p s.regs.a (byteAt s a)) := by
  refine completesWriting_of_runsTo hs ?_
  rw [hp, byteAt_plain hc]
  refine (ha (n := 3) fun l hl => ?_).mono (by decide)
  subst hl
  exact .read rfl hc (.discard hc (.write rfl hc (.last rfl)))

/-- In each of the five forms the operation is the read-modify-write class of `op`; whether abs,X always makes its extra
request is the form's own. -/
structure ModifyForms.RmwClass (F : ModifyForms) (op : Rmw) : Prop where
  acc : ∀ r, program F.acc r = impliedSeq (.rmwA op)
  zp : ∀ z r, program (F.zp z) r = rmwSeq (eaZp z) op
  zpx : ∀ z r, program (F.zpx z) r = rmwSeq (eaZpIndexed z r.x r) op
  abs : ∀ a r, program (F.abs a) r = rmwSeq (eaAbs a) op
  abx : ∃ always, ∀ a r, program (F.abx a) r = rmwSeq (eaAbsIndexed always a r.x r) op

/-- A read-modify-write operation that does not read A makes in every form the byte and the flags of `op`. -/
theorem ModifyForms.RmwClass.modifiesAs {F : ModifyForms} {op : Rmw} {f : Flags → Byte → Byte}
    {g : Flags → Byte → Flags} (h : F.RmwClass op) (hf : ∀ p a v, rmwValue op p a v = f p v)
    (hg : ∀ p a v, rmwFlags op p a v = g p v) : ModifiesAs F f g := by
  intro s z a hs
  have hpc := hs.onChip_lastOperand
  obtain ⟨always, habx⟩ := h.abx
  have hmem {ea : List Micro} {b : Addr} {i : Instr} (ha : Addresses ea s b)
      (hp : program i s.regs = rmwSeq ea op) (hc : onChip s b = false) :
      CompletesWriting i s { s.regs with p := g s.regs.p (byteAt s b) } b (f s.regs.p (byteAt s b)) := by
    rw [← hf s.regs.p s.regs.a, ← hg s.regs.p s.regs.a]
    exact completesWriting_of_rmwSeq hs ha hp hc
  refine
    ⟨completes_of_impliedSeq hs (h.acc _) ?_,
      hmem (addresses_zp z) (h.zp z _) (onChip_zext s _),
      hmem (addresses_zpIndexed hpc z _) (h.zpx z _) (onChip_zext s _),
      hmem (addresses_abs a) (h.abs a _),
      hmem (addresses_absIndexed hpc always a _) (habx a _)⟩
  rw [← hf s.regs.p s.regs.a, ← hg s.regs.p s.regs.a]
  rfl

/-! ## Increments and decrements (R315, R316) -/

theorem inc_rmwClass : incForms.RmwClass .inc :=
  ⟨fun _ => rfl, fun _ _ => rfl, fun _ _ => rfl, fun _ _ => rfl, true, fun _ _ => rfl⟩

theorem dec_rmwClass : decForms.RmwClass .dec :=
  ⟨fun _ => rfl, fun _ _ => rfl, fun _ _ => rfl, fun _ _ => rfl, true, fun _ _ => rfl⟩

/-- Settles O19: INC and DEC are of the read-modify-write class in all five forms, and write N and Z alone. -/
theorem incDecComplete : Obligations.IncDecComplete :=
  ⟨inc_rmwClass.modifiesAs (fun _ _ _ => rfl) fun p _ v => setNZ_eq_withNZ p (v + 1),
    dec_rmwClass.modifiesAs (fun _ _ _ => rfl) fun p _ v => setNZ_eq_withNZ p (v - 1)⟩

end Sys2Proof.Machine
end

section
/-! Proofs for the family of 43_shift_rmw.md: the shifts, the rotates and the bit tests with set or clear, each by the
rule of the read-modify-write class. -/

namespace Sys2Proof.Machine

/-! ## Shifts and rotates (R351 to R354) -/

theorem asl_rmwClass : aslForms.RmwClass .asl :=
  ⟨fun _ => rfl, fun _ _ => rfl, fun _ _ => rfl, fun _ _ => rfl, false, fun _ _ => rfl⟩

theorem lsr_rmwClass : lsrForms.RmwClass .lsr :=
  ⟨fun _ => rfl, fun _ _ => rfl, fun _ _ => rfl, fun _ _ => rfl, false, fun _ _ => rfl⟩

theorem rol_rmwClass : rolForms.RmwClass .rol :=
  ⟨fun _ => rfl, fun _ _ => rfl, fun _ _ => rfl, fun _ _ => rfl, false, fun _ _ => rfl⟩

theorem ror_rmwClass : rorForms.RmwClass .ror :=
  ⟨fun _ => rfl, fun _ _ => rfl, fun _ _ => rfl, fun _ _ => rfl, false, fun _ _ => rfl⟩

/-- A rotate to the right puts C at bit 7 of the result (R354). -/
theorem rmwValue_ror (p : Flags) (a v : Byte) :
    rmwValue .ror p a v = (if p.c then 0x80 else 0) ||| v >>> 1 := by
  rw [rmwValue, bitByte_shift_seven]

/-- A shift or rotate to the left moves bit 7 into C (R351, R353). -/
theorem rmwFlags_left {op : Rmw} (hop : op = .asl ∨ op = .rol) (p : Flags) (a v : Byte) :
    rmwFlags op p a v = { withNZ p (rmwValue op p a v) with c := v.msb } := by
  rw [← setNZ_eq_withNZ, msb_eq_bit_seven]
  rcases hop with rfl | rfl <;> rfl

/-- A shift or rotate to the right moves bit 0 into C (R352, R354). -/
theorem rmwFlags_right {op : Rmw} (hop : op = .lsr ∨ op = .ror) (p : Flags) (a v : Byte) :
    rmwFlags op p a v = { withNZ p (rmwValue op p a v) with c := v.getLsbD 0 } := by
  rw [← setNZ_eq_withNZ]
  rcases hop with rfl | rfl <;> rfl

/-- Settles O18: the four operations are of the read-modify-write class in all five forms, and C is bit 7 or bit 0 of
the old byte by the direction of the shift. -/
theorem shiftsComplete : Obligations.ShiftsComplete := by
  refine
    ⟨asl_rmwClass.modifiesAs (fun _ _ _ => rfl) (rmwFlags_left (.inl rfl)),
      lsr_rmwClass.modifiesAs (fun _ _ _ => rfl) (rmwFlags_right (.inl rfl)),
      rol_rmwClass.modifiesAs (fun _ _ _ => rfl) (rmwFlags_left (.inr rfl)),
      ror_rmwClass.modifiesAs rmwValue_ror fun p a v => ?_⟩
  rw [rmwFlags_right (.inr rfl), rmwValue_ror]

/-! ## Bit tests with set or clear (R355, R356) -/

theorem rmwFlags_test {op : Rmw} (hop : op = .tsb ∨ op = .trb) (p : Flags) (a v : Byte) :
    rmwFlags op p a v = { p with z := decide (a &&& v = 0) } := by
  rw [← testFlags_eq]
  rcases hop with rfl | rfl <;> rfl

/-- Settles O20: both operations are of the read-modify-write class and write Z alone; the model complements A as an
exclusive or with 0xFF. -/
theorem tsbTrbComplete : Obligations.TsbTrbComplete := by
  intro s z a hs r tested
  have hmem {op : Rmw} {ea : List Micro} {b : Addr} {i : Instr} (hop : op = .tsb ∨ op = .trb)
      (ha : Addresses ea s b) (hp : program i r = rmwSeq ea op) (hc : onChip s b = false) :
      CompletesWriting i s (tested (byteAt s b)) b (rmwValue op r.p r.a (byteAt s b)) := by
    have hi := completesWriting_of_rmwSeq hs ha hp hc
    rwa [rmwFlags_test hop] at hi
  rw [← xor_FF]
  exact
    ⟨hmem (.inl rfl) (addresses_zp z) rfl (onChip_zext s _),
      hmem (.inr rfl) (addresses_zp z) rfl (onChip_zext s _),
      hmem (.inl rfl) (addresses_abs a) rfl,
      hmem (.inr rfl) (addresses_abs a) rfl⟩

end Sys2Proof.Machine
end

section
/-! Proofs for the family of 44_control.md: the rules for a push and a pull inside a sequence, for the push of PC and
the taking of an exception, and by them the branches, the jumps, the calls, the returns and the break. -/

namespace Sys2Proof.Machine

/-! ## Pushes inside a sequence (10_state.md R24) -/

/-- `s` after `Push(v)`. -/
def afterPush (v : Byte) (s : State) : State :=
  { ramWrite s (stackAt s.regs.s) v with regs := { s.regs with s := s.regs.s - 1 } }

/-- `s` after `Push(PC[15:8])` and `Push(PC[7:0])`. -/
def afterPushPc (s : State) : State := afterPush (loByte s.regs.pc) (afterPush (hiByte s.regs.pc) s)

theorem afterPush_wf {s : State} (v : Byte) (h : Memory.wf 65536 s.ram = true) :
    Memory.wf 65536 (afterPush v s).ram = true :=
  ramWrite_wf s (stackAt s.regs.s) v h

theorem ramRead_afterPush {s : State} (v : Byte) (h : Memory.wf 65536 s.ram = true) :
    ramRead (afterPush v s) = pushed (ramRead s) s.regs.s v :=
  funext fun b => ramRead_ramWrite s (stackAt s.regs.s) b v h

theorem afterPushPc_wf {s : State} (h : Memory.wf 65536 s.ram = true) :
    Memory.wf 65536 (afterPushPc s).ram = true :=
  afterPush_wf _ (afterPush_wf _ h)

theorem ramRead_afterPushPc {s : State} (h : Memory.wf 65536 s.ram = true) :
    ramRead (afterPushPc s) =
      pushed (pushed (ramRead s) s.regs.s (hiByte s.regs.pc)) (s.regs.s - 1) (loByte s.regs.pc) := by
  rw [afterPushPc, ramRead_afterPush _ (afterPush_wf _ h), ramRead_afterPush _ h]
  rfl

@[simp] theorem afterPushPc_sp (s : State) : (afterPushPc s).regs.s = s.regs.s - 2 :=
  sub_sub s.regs.s 1 1

/-- A push does not change a byte above the stack page. -/
theorem pushed_above (f : Addr → Byte) (sp v : Byte) {a : Addr} (h : 0x200 ≤ a.toNat) : pushed f sp v a = f a :=
  if_neg fun ha => absurd (stackAt_lt sp) (Nat.not_lt.2 (by rwa [ha] at h))

/-- With ROM and MAPCTL as before, a byte off the chip pages differs from what it was by RAM alone. -/
theorem plainByte_of_rom_eq {s t : State} (hrom : t.rom = s.rom) (hmap : t.mapctl = s.mapctl) (a : Addr) :
    plainByte t a = if regionOf a s.mapctl = .ram then ramRead t a else plainByte s a := by
  simp only [plainByte, hrom, hmap]
  cases hr : regionOf a s.mapctl <;> simp [ramRead]

/-- A push does not change what the CPU reads above the stack page, in RAM or elsewhere. -/
theorem plainByte_afterPush {s : State} (v : Byte) {a : Addr} (hw : Memory.wf 65536 s.ram = true)
    (ha : 0x200 ≤ a.toNat) : plainByte (afterPush v s) a = plainByte s a := by
  rw [plainByte_of_rom_eq (s := s) (t := afterPush v s) rfl rfl, ramRead_afterPush v hw, pushed_above _ _ _ ha]
  exact (plainByte_of_rom_eq rfl rfl a).symm

theorem plainByte_afterPushPc {s : State} {a : Addr} (hw : Memory.wf 65536 s.ram = true) (ha : 0x200 ≤ a.toNat) :
    plainByte (afterPushPc s) a = plainByte s a :=
  (plainByte_afterPush _ (afterPush_wf _ hw) ha).trans (plainByte_afterPush _ hw ha)

theorem stored_stackAt (sp v : Byte) (s : State) : stored (stackAt sp) v s = ramWrite s (stackAt sp) v := by
  simp only [stored, stackAt_ne_mapctl, if_false, ramWrite]

/-- A sequence whose last state holds RAM `m` completes with registers `r` and the bytes of `m`. -/
theorem completesPushing_of_runsTo_ram {i : Instr} {s : State} {r : Regs} {m : List Host.Cell} {f : Addr → Byte}
    (hs : Ready s) (h : RunsTo 8 (program i s.regs) s (retire { s with ram := m, regs := r }))
    (hm : ramRead { s with ram := m } = f) : CompletesPushing i s r f := by
  obtain ⟨t, ht, hsame⟩ := h.exec_eq_next hs
  have hram : t.ram = m := by rw [hsame]; rfl
  subst hram
  exact ⟨t, ht, hsame, congrFun hm⟩

namespace RunsTo

variable {n : Nat} {rest : List Micro} {s t : State} {v : Byte} {d : Loc}

theorem push (h : RunsTo n rest (afterPush v s) t) : RunsTo (n + 1) (.push v :: rest) s t := by
  rw [afterPush, ← stored_stackAt] at h
  exact write rfl (onChip_stackAt s _) h

theorem pushPc {r : Regs} (hr : r.pc = s.regs.pc) (h : RunsTo n rest (afterPushPc s) t) :
    RunsTo (n + 2) (.push (hiByte r.pc) :: .push (loByte r.pc) :: rest) s t := by
  rw [hr]
  exact push (push h)

theorem pull
    (h : RunsTo n rest
      { s with regs := { s.regs with s := s.regs.s + 1 }, loc := s.loc.set d (stackByte s 1) } t) :
    RunsTo (n + 1) (.pull d :: rest) s t :=
  read rfl (onChip_stackAt s _) ((plainByte_stackAt s 1).symm ▸ h)

theorem operandHi (hc : onChip s s.regs.pc = false)
    (h : RunsTo n rest
      { s with
        regs := { s.regs with pc := s.regs.pc + 1 }, loc := { s.loc with hi := plainByte s s.regs.pc } } t) :
    RunsTo (n + 1) (.operandHi :: rest) s t :=
  request rfl hc h

end RunsTo

/-! ## Branches (R381 to R390) -/

/-- Each branch is the common branch rule with its own flag test. -/
theorem program_branch (nn : Byte) (r : Regs) :
    ∀ b ∈ branches, program (b.1 nn) r = branchSeq (b.2 r.p) nn r := by
  simp only [branches, List.forall_mem_cons, List.not_mem_nil, false_imp_iff, implies_true, and_true]
  exact ⟨rfl, rfl, rfl, rfl, rfl, rfl, rfl, rfl, rfl⟩

theorem completes_of_branchSeq {i : Instr} {s : State} {taken : Bool} {nn : Byte} (hs : Ready s)
    (hp : program i s.regs = branchSeq taken nn s.regs) :
    Completes i s (if taken then { s.regs with pc := s.regs.pc + nn.signExtend 16 } else s.regs) := by
  refine completes_of_runsTo hs ?_
  rw [hp]
  cases taken with
  | false => exact .done rfl
  | true =>
    refine RunsTo.mono (n := 2) (.discard hs.onChip_pc ?_) (by decide)
    split
    · exact .discard hs.onChip_pc (.last rfl)
    · exact .last rfl

/-- Settles O23: every branch is the common rule, taken by its flag test. -/
theorem branchesComplete : Obligations.BranchesComplete :=
  fun s nn hs b hb => completes_of_branchSeq hs (program_branch nn s.regs b hb)

/-! ## Jumps (R391) -/

theorem vectorAt_plain {s : State} {a : Addr} (hlo : onChip s a = false) (hhi : onChip s (a + 1) = false) :
    vectorAt s a = pair (plainByte s (a + 1)) (plainByte s a) := by
  rw [vectorAt, byteAt_plain hlo, byteAt_plain hhi]

theorem completes_of_jumpThrough {i : Instr} {s : State} {a : Addr} (hs : Ready s)
    (hp : program i s.regs = jumpThrough a s.regs) (hlo : onChip s a = false) (hhi : onChip s (a + 1) = false) :
    Completes i s { s.regs with pc := vectorAt s a } := by
  refine completes_of_runsTo hs (RunsTo.mono (n := 3) ?_ (by decide))
  rw [hp, vectorAt_plain hlo hhi]
  exact .discard hs.onChip_lastOperand (.read rfl hlo (.read rfl hhi (.last rfl)))

/-- Settles O24: the absolute form makes no request, and the other two jump through a pointer. -/
theorem jumpsComplete : Obligations.JumpsComplete := by
  intro s a hs
  exact
    ⟨completes_of_runsTo hs (.last rfl),
      completes_of_jumpThrough hs rfl,
      completes_of_jumpThrough hs rfl⟩

/-! ## Calls and returns (R392, R393) -/

/-- JSR reads its third byte after the pushes, which change it if it lies in the stack page. -/
theorem jsr_completes {s : State} (a : Addr) (hs : Ready s) :
    let hh := if regionOf s.regs.pc s.mapctl = .ram then ramRead (afterPushPc s) s.regs.pc else byteAt s s.regs.pc
    CompletesPushing (.jsr a) s { s.regs with s := s.regs.s - 2, pc := pair hh (loByte a) }
      (ramRead (afterPushPc s)) := by
  intro hh
  have hhigh : plainByte (afterPushPc { s with loc := s.loc.set .lo (loByte a) }) s.regs.pc = hh := by
    simp only [hh, byteAt_plain hs.onChip_pc]
    exact plainByte_of_rom_eq (s := s) (t := afterPushPc { s with loc := _ }) rfl rfl s.regs.pc
  refine completesPushing_of_runsTo_ram (m := (afterPushPc s).ram) hs (RunsTo.mono (n := 4) ?_ (by decide)) rfl
  rw [← hhigh, ← afterPushPc_sp s]
  exact .internal rfl (.discard (onChip_stackAt s _) (.pushPc rfl (.operandHi hs.onChip_pc (.last rfl))))

theorem rts_completes {s : State} (hs : Ready s)
    (hc : onChip s (pair (stackByte s 2) (stackByte s 1)) = false) :
    Completes .rts s
      { s.regs with s := s.regs.s + 2, pc := pair (stackByte s 2) (stackByte s 1) + 1 } := by
  refine completes_of_runsTo hs (RunsTo.mono (n := 5) ?_ (by decide))
  have hsp : s.regs.s + 2 = s.regs.s + 1 + 1 := (BitVec.add_assoc s.regs.s 1 1).symm
  simp only [stackByte, hsp] at hc ⊢
  exact .discard hs.onChip_pc (.discard (onChip_stackAt s _) (.pull (.pull (.discard hc (.last rfl)))))

/-- Settles O25: the byte JSR reads late is the pushed one where RAM answers, and RTS reads at the pulled address. -/
theorem jsrRtsComplete : Obligations.JsrRtsComplete := by
  intro s a hs r ram hh back
  have hram : ramRead (afterPushPc s) = ram := ramRead_afterPushPc hs.ram_wf
  have hjsr := jsr_completes a hs
  rw [hram] at hjsr
  exact ⟨hjsr, rts_completes hs⟩

/-! ## Break and return from interrupt (R394, R395; 60_exceptions.md R458) -/

/-- Taking an exception pushes PC and the flags, and goes to the vector, which no push changes. -/
theorem runsTo_exceptionSeq {s : State} {vec : Addr} (b : Bool) (hw : Memory.wf 65536 s.ram = true)
    (hlo : 0xFFFA ≤ vec.toNat) (hhi : 0xFFFA ≤ (vec + 1).toNat) :
    RunsTo 5 (exceptionSeq vec b s.regs) s
      (retire
        { afterPush (s.regs.p.toByte b) (afterPushPc s) with
          regs :=
            { s.regs with
              s := s.regs.s - 3, pc := vectorAt s vec, p := { s.regs.p with i := true, d := false } } }) := by
  have hclo := onChip_vectors s hlo
  have hchi := onChip_vectors s hhi
  have hbyte {a : Addr} (ha : 0xFFFA ≤ a.toNat) :
      plainByte (afterPush (s.regs.p.toByte b) (afterPushPc s)) a = plainByte s a := by
    have ha' : 0x200 ≤ a.toNat := by omega
    rw [plainByte_afterPush _ (afterPushPc_wf hw) ha', plainByte_afterPushPc hw ha']
  have hsp : s.regs.s - 3 = (afterPushPc s).regs.s - 1 := by rw [afterPushPc_sp]; exact (sub_sub s.regs.s 2 1).symm
  rw [vectorAt_plain hclo hchi, ← hbyte hlo, ← hbyte hhi, hsp]
  exact .pushPc rfl (.push (.read rfl hclo (.read rfl hchi (.internal rfl (.last rfl)))))

theorem brk_completes {s : State} (sig : Byte) (hs : Ready s) :
    CompletesPushing (.brk sig) s
      { s.regs with s := s.regs.s - 3, pc := vectorAt s 0xFFFE, p := { s.regs.p with i := true, d := false } }
      (pushed (ramRead (afterPushPc s)) (s.regs.s - 2) (s.regs.p.toByte true)) := by
  rw [← afterPushPc_sp, ← ramRead_afterPush _ (afterPushPc_wf hs.ram_wf)]
  exact completesPushing_of_runsTo_ram hs
    ((runsTo_exceptionSeq true hs.ram_wf (by decide) (by decide)).mono (by decide)) rfl

theorem rti_completes {s : State} (hs : Ready s) :
    Completes .rti s
      { s.regs with
        s := s.regs.s + 3, pc := pair (stackByte s 3) (stackByte s 2), p := pulledFlags (stackByte s 1) } := by
  refine completes_of_runsTo hs (RunsTo.mono (n := 5) ?_ (by decide))
  have htwo : s.regs.s + 2 = s.regs.s + 1 + 1 := (BitVec.add_assoc s.regs.s 1 1).symm
  have hthree : s.regs.s + 3 = s.regs.s + 1 + 1 + 1 := by rw [← htwo, BitVec.add_assoc]; rfl
  simp only [stackByte, htwo, hthree]
  exact .discard hs.onChip_pc (.discard (onChip_stackAt s _)
    (.pull (.internal rfl (.pull (.pull (.last rfl))))))

/-- Settles O26: BRK takes an exception with B = 1, and pushes P by weights last; RTI pulls three times. -/
theorem brkRtiComplete : Obligations.BrkRtiComplete := by
  intro s sig hs r
  refine ⟨?_, rti_completes hs⟩
  rw [← ramRead_afterPushPc hs.ram_wf, ← toByte_eq_statusByte]
  exact brk_completes sig hs

end Sys2Proof.Machine
end

section
/-! Proofs for the family of 45_system_flags_nop.md: the no-operations make discard reads and nothing else. Off the chip
pages such a read changes nothing; with nothing queued it is served at its own tick, whatever answers. -/

namespace Sys2Proof.Machine

/-! ## Discard reads off the chip pages (40_cpu_machine.md R207) -/

theorem runsTo_replicate_discard {s : State} {p : Place} (hc : onChip s (p.addr s) = false) :
    ∀ n, RunsTo n (List.replicate n (.discard p)) s (retire s)
  | 0 => .done rfl
  | n + 1 => .discard hc (runsTo_replicate_discard hc n)

/-- An instruction that makes `n` discard reads at one place changes nothing. -/
theorem completes_of_discards {i : Instr} {s : State} {p : Place} {n : Nat} (hs : Ready s)
    (hp : program i s.regs = List.replicate n (.discard p)) (hn : n ≤ 8) (hc : onChip s (p.addr s) = false) :
    Completes i s s.regs :=
  completes_of_runsTo hs (hp ▸ (runsTo_replicate_discard hc n).mono hn)

/-- An instruction that makes one discard read at its effective address changes nothing. -/
theorem completes_of_discardEa {i : Instr} {s : State} {ea : List Micro} {a : Addr} (hs : Ready s)
    (ha : Addresses ea s a) (hp : program i s.regs = ea ++ [Micro.discard .ea]) (hc : onChip s a = false) :
    Completes i s s.regs := by
  refine completes_of_runsTo hs ?_
  rw [hp]
  refine RunsTo.mono (n := 1 + 3) (ha fun l hl => ?_) (by decide)
  subst hl
  exact .discard hc (.done rfl)

/-! ## Discard reads anywhere, with nothing queued (20_memory.md R86, R103) -/

/-- The machine `s` after one read request at `b`. -/
def looked (b : Addr) (s : State) : State := (serve (readReq b) s).2

/-- A read request changes the clock, the predictor and the count of the free values alone. -/
theorem looked_frame (b : Addr) (s : State) :
    looked b s =
      { s with draws := (looked b s).draws, now := (looked b s).now, seqNext := (looked b s).seqNext } := by
  have hr : (access (readReq b) s).2 = { s with draws := (busRead b s).2.draws } := busRead_frame b s
  simp only [looked, serve, hr]

theorem looked_queue (b : Addr) (s : State) : (looked b s).queue = s.queue := by rw [looked_frame]

theorem looked_regs (b : Addr) (s : State) : (looked b s).regs = s.regs := by rw [looked_frame]

/-- With nothing queued, a read request leaves the turn to the CPU. -/
theorem turn_looked {s : State} (b : Addr) (hq : s.queue = []) (ht : turn s = .cpu) : turn (looked b s) = .cpu := by
  obtain ⟨-, hs, hr⟩ := turn_eq_cpu_iff.1 ht
  rw [looked_frame]
  exact turn_eq_cpu_iff.2 ⟨by simp only [due, hq], hs, hr⟩

/-- The machine `s` with the CPU at the fetch boundary of the instruction at `pc`. -/
def atFetch (pc : Addr) (s : State) : State :=
  { s with
    req := some { kind := .fetchOpcode, addr := pc, value := 0 }, cont := .boundary
    loc := Locals.clear }

theorem retire_withWork {c s : State} (hr : c.regs = s.regs) : retire (withWork c s) = atFetch s.regs.pc s := by
  simp only [retire, suspend, withWork, atFetch, hr]

/-- `n` discard reads at one place are `n` read requests at its address, each served at its own tick. -/
theorem perform_replicate_discard {c s : State} (p : Place) (n : Nat) (hr : c.regs = s.regs) (hq : s.queue = [])
    (ht : turn s = .cpu) :
    perform (List.replicate n (.discard p)) (withWork c s) = atFetch s.regs.pc ((looked (p.addr c))^[n] s) := by
  induction n generalizing c s with
  | zero => exact retire_withWork hr
  | succ n ih =>
    have haddr (r : Request) (k : Cont) : p.addr (suspend r k c) = p.addr c := by cases p <;> rfl
    have hrest := ih (c := suspend (readReq (p.addr c)) (.running (List.replicate (n + 1) (.discard p))) c)
      (hr.trans (looked_regs (p.addr c) s).symm) ((looked_queue _ s).trans hq) (turn_looked _ hq ht)
    rw [haddr, looked_regs] at hrest
    rw [List.replicate_succ, perform_withWork_request rfl ht]
    exact hrest

/-- An instruction that makes one discard read at its absolute address. -/
theorem exec_of_discardAbs {i : Instr} {s : State} {a : Addr} (hp : program i s.regs = eaAbs a ++ [Micro.discard .ea])
    (hq : s.queue = []) (ht : turn s = .cpu) : exec i s = .next (atFetch s.regs.pc (looked a s)) := by
  rw [exec_eq_next, hp]
  exact congrArg _ ((perform_withWork_internal (c := s) s rfl).trans (perform_replicate_discard .ea 1 rfl hq ht))

/-- An instruction that makes `n` discard reads at a given address. -/
theorem exec_of_discards {i : Instr} {s : State} {b : Addr} {n : Nat}
    (hp : program i s.regs = List.replicate n (.discard (.fixed b))) (hq : s.queue = []) (ht : turn s = .cpu) :
    exec i s = .next (atFetch s.regs.pc ((looked b)^[n] s)) := by
  rw [exec_eq_next, hp]
  exact congrArg _ (perform_replicate_discard (c := s) (.fixed b) n rfl hq ht)

/-! ## No-operations (R428 to R431, R433, R434) -/

/-- Settles O21: the immediate forms make no request, 5C makes five discard reads, and each of the others makes its
last one at PC or at its effective address. -/
theorem nopsComplete : Obligations.NopsComplete := by
  constructor
  · intro s v a hs
    have himm {i : Instr} (hp : program i s.regs = []) : Completes i s s.regs :=
      completes_of_runsTo hs (hp ▸ .done rfl)
    have hzpx {i : Instr} (hp : program i s.regs = eaZpIndexed v s.regs.x s.regs ++ [Micro.discard .ea]) :
        Completes i s s.regs :=
      completes_of_discardEa hs (addresses_zpIndexed hs.onChip_lastOperand v _) hp (onChip_zext s _)
    exact
      ⟨completes_of_discards hs (n := 1) (p := .pc) rfl (by decide) hs.onChip_pc,
        himm rfl, himm rfl, himm rfl, himm rfl, himm rfl, himm rfl, himm rfl,
        completes_of_discardEa hs (addresses_zp v) rfl (onChip_zext s _),
        hzpx rfl, hzpx rfl, hzpx rfl,
        fun hc =>
          ⟨completes_of_discardEa hs (addresses_abs a) rfl hc, completes_of_discardEa hs (addresses_abs a) rfl hc⟩,
        completes_of_discards hs (n := 5) (p := .fixed _) rfl (by decide)⟩
  · intro s a hq ht look done b
    exact ⟨exec_of_discardAbs rfl hq ht, exec_of_discardAbs rfl hq ht, exec_of_discards (n := 5) rfl hq ht⟩

/-! ## Hiccups (R432; 30_encoding.md R169) -/

theorem map_program_hiccups (r : Regs) : hiccups.map (program · r) = List.replicate 64 [] := rfl

theorem program_hiccup {i : Instr} (hi : i ∈ hiccups) (r : Regs) : program i r = [] :=
  List.eq_of_mem_replicate (map_program_hiccups r ▸ List.mem_map_of_mem hi)

/-- Settles O22: the sequence of a hiccup is empty. -/
theorem hiccupsRefetch : Obligations.HiccupsRefetch := by
  intro i hi s
  rw [exec_eq_next, program_hiccup hi, perform_nil]
  rfl

end Sys2Proof.Machine
end

section
/-! Proofs for the family of 60_exceptions.md: the fire of a timer, with the borrow it sends down the chain and what
it drives (R482, R483, R488, R489), the writes of the timer registers (R484 to R487, R491), and the interrupt status
registers (R500, R501). -/

namespace Sys2Proof.Machine

/-! ## The interrupt status registers (R500 to R502) -/

/-- From `s` to `t` no action is lost, and an action that tells the interrupt level is in the queue if the pending
bits have changed. -/
structure Tells (s t : State) : Prop where
  queue : s.queue ⊆ t.queue
  told : t.intPending = s.intPending ∨ ∃ e ∈ t.queue, e.kind = .irqUpdate

theorem Tells.of_eq {s t : State} (hq : s.queue ⊆ t.queue) (hp : t.intPending = s.intPending) : Tells s t :=
  ⟨hq, .inl hp⟩

theorem Tells.refl (s : State) : Tells s s := .of_eq (List.Subset.refl _) rfl

theorem Tells.trans {s t u : State} (h₁ : Tells s t) (h₂ : Tells t u) : Tells s u := by
  refine ⟨List.Subset.trans h₁.queue h₂.queue, ?_⟩
  rcases h₂.told with hp | he
  · rcases h₁.told with hp' | ⟨e, he, hk⟩
    · exact .inl (hp.trans hp')
    · exact .inr ⟨e, h₂.queue he, hk⟩
  · exact .inr he

theorem subset_insertAction (e : Action) (q : List Action) : q ⊆ insertAction e q :=
  fun _ hx => mem_insertAction.2 (.inr hx)

@[simp] theorem setPending_timers (t : Nat) (v : Byte) (s : State) : (setPending t v s).timers = s.timers := by
  rw [setPending_eq]

@[simp] theorem setPending_display (t : Nat) (v : Byte) (s : State) :
    (setPending t v s).display = s.display := by
  rw [setPending_eq]

@[simp] theorem setPending_intPending (t : Nat) (v : Byte) (s : State) : (setPending t v s).intPending = v := by
  rw [setPending_eq]

/-- A change of the pending bits is told at its tick (R502). -/
theorem irqUpdate_mem_setPending {t : Nat} {v : Byte} {s : State} (h : v ≠ s.intPending) :
    { tick := t, kind := .irqUpdate } ∈ (setPending t v s).queue := by
  rw [setPending_eq]
  simp only [if_neg h, mem_insertAction, true_or]

theorem setPending_tells (t : Nat) (v : Byte) (s : State) : Tells s (setPending t v s) := by
  by_cases h : v = s.intPending
  · rw [setPending, if_pos h]
    exact .refl s
  · refine ⟨?_, .inr ⟨_, irqUpdate_mem_setPending (t := t) h, rfl⟩⟩
    rw [setPending_eq]
    simp only [if_neg h]
    exact subset_insertAction _ _

theorem irqLine_eq (s : State) : irqLine s = decide (s.intPending ≠ 0) := by
  simp only [irqLine, bne, beq_eq_decide, decide_not, ne_eq]

/-- The level goes into the mask, and a high level wakes a sleeping CPU (R541). -/
theorem irqUpdate_eq (s : State) :
    irqUpdate s =
      { s with
        irqMask := { s.irqMask with irq := decide (s.intPending ≠ 0) }
        cpuRun := if s.intPending ≠ 0 ∧ s.cpuRun = .sleep then .run else s.cpuRun } := by
  simp only [irqUpdate, irqLine_eq, Bool.and_eq_true, decide_eq_true_eq, beq_iff_eq]

/-- Settles O48: both writes set the pending bits through `setPending`. -/
theorem interruptStatus : Obligations.InterruptStatus := by
  intro s v t told
  refine ⟨rfl, rfl, ?_, setPending_eq t _ s, ?_⟩
  · rw [← xor_FF]
    exact setPending_eq t _ s
  · exact irqUpdate_eq s

/-! ## What a timer drives (R489) -/

/-- Equal but for the display, the free values and what leaves the machine, and no action is lost. -/
def OnlyDisplay (s t : State) : Prop :=
  t = { s with queue := t.queue, display := t.display, draws := t.draws, out := t.out } ∧ s.queue ⊆ t.queue

theorem OnlyDisplay.of_queue_eq {s t : State}
    (h : t = { s with queue := t.queue, display := t.display, draws := t.draws, out := t.out })
    (hq : t.queue = s.queue) : OnlyDisplay s t :=
  ⟨h, hq ▸ List.Subset.refl _⟩

theorem OnlyDisplay.trans {s t u : State} (h₁ : OnlyDisplay s t) (h₂ : OnlyDisplay t u) : OnlyDisplay s u := by
  obtain ⟨ht, hq⟩ := h₁
  obtain ⟨hu, hq'⟩ := h₂
  rw [ht] at hu
  exact ⟨hu, List.Subset.trans hq hq'⟩

theorem breakFrame_onlyDisplay (b : Bool) (s : State) : OnlyDisplay s (breakFrame b s) := .of_queue_eq rfl rfl

theorem finishOpenLine_onlyDisplay (t : Nat) (s : State) : OnlyDisplay s (finishOpenLine t s) := by
  simp only [finishOpenLine]
  split <;> exact .of_queue_eq rfl rfl

theorem latchDmaAddr_onlyDisplay (r : Byte) (s : State) : OnlyDisplay s (latchDmaAddr r s) := by
  simp only [latchDmaAddr]
  split <;> exact .of_queue_eq rfl rfl

theorem openRow_onlyDisplay (t : Nat) (r : Byte) (s : State) : OnlyDisplay s (openRow t r s) := by
  simp only [openRow]
  split
  · exact ⟨rfl, subset_insertAction _ _⟩
  · exact .of_queue_eq rfl rfl

theorem hblank_onlyDisplay (t : Nat) (r : Byte) (s : State) : OnlyDisplay s (hblank t r s) :=
  (((breakFrame_onlyDisplay _ s).trans (finishOpenLine_onlyDisplay t _)).trans
    (latchDmaAddr_onlyDisplay r _)).trans (openRow_onlyDisplay t r _)

theorem vblank_onlyDisplay (t : Nat) (s : State) : OnlyDisplay s (vblank t s) :=
  (finishOpenLine_onlyDisplay t s).trans (.of_queue_eq rfl rfl)

/-- A device reaches neither the timers nor the interrupt status. -/
theorem triggerDevice_onlyDisplay (n : Fin 12) (t : Nat) (s : State) : OnlyDisplay s (triggerDevice n t s) := by
  simp only [triggerDevice]
  split
  case h_1 => exact (breakFrame_onlyDisplay _ s).trans (hblank_onlyDisplay t _ _)
  case h_2 => exact (breakFrame_onlyDisplay _ s).trans (vblank_onlyDisplay t _)
  all_goals exact .of_queue_eq rfl rfl

theorem OnlyDisplay.timers {s t : State} (h : OnlyDisplay s t) : t.timers = s.timers := by rw [h.1]

theorem OnlyDisplay.intPending {s t : State} (h : OnlyDisplay s t) : t.intPending = s.intPending := by rw [h.1]

theorem OnlyDisplay.tells {s t : State} (h : OnlyDisplay s t) : Tells s t := .of_eq h.2 h.intPending

/-- Machines with the same timers agree on each. -/
theorem timer_congr {s t : State} (h : t.timers = s.timers) (n : Fin 12) : timer t n = timer s n := by
  simp only [timer, h]

/-! ## The head of a fire, up to its trigger (R482, R489) -/

@[simp] theorem triggerInt_timers (n : Fin 12) (t : Nat) (s : State) : (triggerInt n t s).timers = s.timers := by
  simp only [triggerInt]
  split
  · exact setPending_timers t _ s
  · rfl

@[simp] theorem triggerInt_display (n : Fin 12) (t : Nat) (s : State) :
    (triggerInt n t s).display = s.display := by
  simp only [triggerInt]
  split
  · exact setPending_display t _ s
  · rfl

theorem setTimer_tells (n : Fin 12) (T : Timer) (s : State) : Tells s (setTimer n T s) :=
  .of_eq (List.Subset.refl _) rfl

theorem triggerInt_tells (n : Fin 12) (t : Nat) (s : State) : Tells s (triggerInt n t s) := by
  simp only [triggerInt]
  split
  · exact setPending_tells t _ s
  · exact .refl s

theorem triggerInt_of_enInt {n : Fin 12} {s : State} (t : Nat) (hn : n.val < 8) (he : (timer s n).enInt = true) :
    triggerInt n t s = setPending t (s.intPending ||| (1#8 <<< n.val)) s := by
  simp only [triggerInt, hn, he, decide_true, Bool.and_self, if_true]

/-- The head of a fire rewrites its own timer and no other. -/
theorem timer_fireHead (n m : Fin 12) (t : Nat) (s : State) :
    timer (fireHead n t s) m = if m = n then (timer s n).fired t else timer s m := by
  have ht : (fireHead n t s).timers = (setTimer n ((timer s n).fired t) s).timers :=
    (triggerDevice_onlyDisplay n t _).timers.trans (triggerInt_timers n t _)
  rw [timer_congr ht, timer_setTimer]

theorem fireHead_tells (n : Fin 12) (t : Nat) (s : State) : Tells s (fireHead n t s) :=
  (setTimer_tells n _ s).trans ((triggerInt_tells n t _).trans (triggerDevice_onlyDisplay n t _).tells)

/-- The interrupt part of a trigger alone reaches the pending bits. -/
theorem fireHead_intPending (n : Fin 12) (t : Nat) (s : State) :
    (fireHead n t s).intPending = (triggerInt n t (setTimer n ((timer s n).fired t) s)).intPending :=
  (triggerDevice_onlyDisplay n t _).intPending

/-! ## The tail of a fire: the re-arm (R482) -/

theorem schedule_tells (n : Fin 12) (T : Timer) (t : Nat) (s : State) : Tells s (schedule n T t s) :=
  .of_eq (fun _ he => mem_queue_schedule n T t s he) (by rw [schedule_eq])

theorem fireTail_tells (n : Fin 12) (t : Nat) (s : State) : Tells s (fireTail n t s) := by
  simp only [fireTail]
  split
  · exact schedule_tells n _ t s
  · exact .refl s

theorem timer_fireTail_of_ne {n m : Fin 12} (h : m ≠ n) (t : Nat) (s : State) :
    timer (fireTail n t s) m = timer s m := by
  simp only [fireTail]
  split
  · rw [timer_schedule, if_neg h]
  · rfl

/-- The re-arm of a timer that reloads is its schedule computation, and there is none otherwise. -/
theorem timer_fireTail_self (n : Fin 12) (t : Nat) (s : State) :
    timer (fireTail n t s) n =
      if (timer s n).enReload then
        { timer s n with
          base := t
          predicted := if (timer s n).runs then some (t + (timer s n).delay) else none }
      else timer s n := by
  simp only [fireTail]
  split
  · exact timer_schedule_self n _ t s
  · rfl

/-! ## The borrow (R483, R488) -/

/-- `R` leads across each part of a fire at tick `t`: the head, the tail, and what a borrow does to the count of a
linked timer, which predicts no fire of its own. -/
structure FireStable (t : Nat) (R : State → State → Prop) : Prop where
  refl : ∀ s, R s s
  trans : ∀ {s u v}, R s u → R u v → R s v
  head : ∀ n s, R s (fireHead n t s)
  borrow : ∀ n T s, (timer s n).clk = 7 → T.predicted = (timer s n).predicted → R s (setTimer n T s)
  tail : ∀ n s, R s (fireTail n t s)

/-- A timer that the borrow reaches is linked, and takes it. -/
def Timer.linked (T : Timer) : Bool := T.clk == 7 && T.takesBorrow

/-- A borrow to a timer that is not linked goes no further. -/
theorem borrowChain_not_linked {d : Fin 12} {s : State} (t : Nat) (ds : List (Fin 12))
    (h : (timer s d).linked = false) : borrowChain t (d :: ds) s = s := by
  simp only [Timer.linked] at h
  simp only [borrowChain, h, Bool.false_eq_true, if_false]

/-- A borrow to a linked timer that has not counted to zero counts it down. -/
theorem borrowChain_count {d : Fin 12} {s : State} (t : Nat) (ds : List (Fin 12)) (h : (timer s d).linked = true)
    (hc : (timer s d).count ≠ 0) :
    borrowChain t (d :: ds) s =
      setTimer d { timer s d with borrowIn := true, count := (timer s d).count - 1 }
        (setTimer d { timer s d with borrowIn := true } s) := by
  simp only [Timer.linked] at h
  simp only [borrowChain, h, if_true, setTimer_timer_self, bne_iff_ne, ne_eq, hc, not_false_eq_true]

/-- A borrow to a linked timer at zero makes it fire, and sends a borrow to the rest. -/
theorem borrowChain_fire {d : Fin 12} {s : State} (t : Nat) (ds : List (Fin 12)) (h : (timer s d).linked = true)
    (hc : (timer s d).count = 0) :
    borrowChain t (d :: ds) s =
      fireTail d t (borrowChain t ds (fireHead d t (setTimer d { timer s d with borrowIn := true } s))) := by
  simp only [Timer.linked] at h
  simp only [borrowChain, h, if_true, setTimer_timer_self, hc, bne_self_eq_false, Bool.false_eq_true, if_false]

theorem FireStable.borrowChain {t : Nat} {R : State → State → Prop} (h : FireStable t R) (ds : List (Fin 12))
    (s : State) : R s (borrowChain t ds s) := by
  induction ds generalizing s with
  | nil => exact h.refl s
  | cons d ds ih =>
    cases hl : (timer s d).linked with
    | false =>
      rw [borrowChain_not_linked t ds hl]
      exact h.refl s
    | true =>
      obtain ⟨hclk, -⟩ : (timer s d).clk = 7 ∧ _ := by simpa [Timer.linked] using hl
      have hin : R s (setTimer d { timer s d with borrowIn := true } s) := h.borrow d _ s hclk rfl
      by_cases hc : (timer s d).count = 0
      · rw [borrowChain_fire t ds hl hc]
        exact h.trans hin (h.trans (h.head d _) (h.trans (ih _) (h.tail d _)))
      · rw [borrowChain_count t ds hl hc]
        exact h.trans hin (h.borrow d _ _ (by rw [setTimer_timer_self, hclk]) (by rw [setTimer_timer_self]))

/-- A whole fire is its head, the borrow and its tail. -/
theorem FireStable.timerFire {t : Nat} {R : State → State → Prop} (h : FireStable t R) (n : Fin 12) (s : State) :
    R s (timerFire n t s) :=
  h.trans (h.head n s) (h.trans (h.borrowChain _ _) (h.tail n _))

theorem tells_fireStable (t : Nat) : FireStable t Tells where
  refl := Tells.refl
  trans := Tells.trans
  head n s := fireHead_tells n t s
  borrow n T s _ _ := setTimer_tells n T s
  tail n s := fireTail_tells n t s

/-- A borrow reaches only the timers of its chain. -/
theorem timer_borrowChain_of_not_mem {ds : List (Fin 12)} {m : Fin 12} (hm : m ∉ ds) (t : Nat) (s : State) :
    timer (borrowChain t ds s) m = timer s m := by
  induction ds generalizing s with
  | nil => rfl
  | cons d ds ih =>
    obtain ⟨hd, hds⟩ := not_or.1 (mt List.mem_cons.2 hm)
    cases hl : (timer s d).linked with
    | false => rw [borrowChain_not_linked t ds hl]
    | true =>
      by_cases hc : (timer s d).count = 0
      · rw [borrowChain_fire t ds hl hc, timer_fireTail_of_ne hd, ih hds, timer_fireHead, if_neg hd,
          timer_setTimer, if_neg hd]
      · rw [borrowChain_count t ds hl hc, timer_setTimer, if_neg hd, timer_setTimer, if_neg hd]

/-- The chain of a fire does not come back to the timer that fired. -/
theorem start_not_mem_chainFrom (start : Fin 12) (k : Nat) (n : Fin 12) : start ∉ chainFrom start k n := by
  induction k generalizing n with
  | zero => exact List.not_mem_nil
  | succ k ih =>
    simp only [chainFrom]
    split
    · exact List.not_mem_nil
    · split
      · exact List.not_mem_nil
      · next hd => exact fun h => (List.mem_cons.1 h).elim (fun e => hd e.symm) (ih _)

/-- The chain of a fire starts with the timer below, and reaches it once. -/
theorem chainFrom_of_downstream {n d : Fin 12} (h : downstream n = some d) :
    d ≠ n ∧ chainFrom n 12 n = d :: chainFrom n 11 d ∧ d ∉ chainFrom n 11 d := by
  have hall : ∀ n d : Fin 12, downstream n = some d →
      d ≠ n ∧ chainFrom n 12 n = d :: chainFrom n 11 d ∧ d ∉ chainFrom n 11 d := by
    decide
  exact hall n d h

/-! ## A whole fire (R482) -/

theorem timer_borrowed_self (n : Fin 12) (t : Nat) (s : State) :
    timer (borrowChain t (chainFrom n 12 n) (fireHead n t s)) n = (timer s n).fired t := by
  rw [timer_borrowChain_of_not_mem (start_not_mem_chainFrom n 12 n), timer_fireHead, if_pos rfl]

theorem unit_eq (T : Timer) : T.unit = 16 * 2 ^ T.clk.toNat := Nat.shiftLeft_eq 16 T.clk.toNat

/-- A timer that reloads may be scheduled unless it is stopped, linked or without a period. -/
theorem reload_and_runs (T : Timer) :
    (T.enReload && T.runs) =
      (T.enReload && T.enCount && decide (T.clk ≠ 7) && decide (T.backup ≠ 0)) := by
  simp only [Timer.runs, bne, beq_eq_decide, decide_not]
  cases T.enReload <;> simp

theorem delay_fired {T : Timer} (h : T.enReload = true) (t : Nat) :
    (T.fired t).delay = (T.backup.toNat + 1) * (16 * 2 ^ T.clk.toNat) := by
  simp only [Timer.delay, unit_eq, Timer.fired, h, if_true]

theorem timer_timerFire_self (n : Fin 12) (t : Nat) (s : State) :
    timer (timerFire n t s) n =
      if (timer s n).enReload then
        { (timer s n).fired t with
          base := t
          predicted :=
            if ((timer s n).fired t).runs then some (t + ((timer s n).fired t).delay) else none }
      else (timer s n).fired t := by
  rw [timerFire, timer_fireTail_self, timer_borrowed_self]
  rfl

/-- A timer that reloads and may be scheduled has its next fire in the queue. -/
theorem fire_mem_timerFire {n : Fin 12} {t : Nat} {s : State} (he : (timer s n).enReload = true)
    (hr : ((timer s n).fired t).runs = true) :
    { tick := t + ((timer s n).fired t).delay, kind := .timer n } ∈ (timerFire n t s).queue := by
  have he' : ((timer s n).fired t).enReload = true := he
  simp only [timerFire, fireTail, timer_borrowed_self, he', if_true, schedule_eq, hr, mem_insertAction, true_or]

/-- Settles O44: neither the trigger nor the borrow reaches the timer that fired, and the re-arm is its schedule
computation. -/
theorem fireAndRearm : Obligations.FireAndRearm := by
  intro s n t T arms next
  have hruns : (T.enReload && (T.fired t).runs) = arms := reload_and_runs (T.fired t)
  rw [timer_timerFire_self, ← hruns]
  cases he : T.enReload with
  | false => exact ⟨by simp [T, he, Timer.fired], by simp⟩
  | true =>
    have hnext : t + (T.fired t).delay = next := by rw [delay_fired he]
    rw [Bool.true_and, ← hnext]
    exact ⟨by simp [T, he, Timer.fired], fire_mem_timerFire he⟩

/-- What the fire of a running timer that reloads leaves to come. -/
theorem timer_timerFire_of_reload {n : Fin 12} {s : State} (t : Nat) (he : (timer s n).enReload = true)
    (hr : (timer s n).runs = true) :
    (timer (timerFire n t s) n).count = (timer s n).backup ∧
      (timer (timerFire n t s) n).predicted =
        some (t + ((timer s n).backup.toNat + 1) * (16 * 2 ^ (timer s n).clk.toNat)) := by
  have hruns : ((timer s n).fired t).runs = true := by simpa [Timer.runs, Timer.fired, he] using hr
  rw [timer_timerFire_self, if_pos he, if_pos hruns, delay_fired he]
  exact ⟨if_pos he, rfl⟩

/-- A timer that does not reload is left with nothing to come. -/
theorem timer_timerFire_of_no_reload {n : Fin 12} {s : State} (t : Nat) (he : (timer s n).enReload = false) :
    (timer (timerFire n t s) n).predicted = none := by
  rw [timer_timerFire_self, he]
  rfl

theorem timer_timerFire_done (n : Fin 12) (t : Nat) (s : State) : (timer (timerFire n t s) n).done = true := by
  rw [timer_timerFire_self]
  split <;> rfl

/-- Settles O45: a schedule computation loses no action, and every register write ends with one. -/
theorem staleFireIgnored : Obligations.StaleFireIgnored := by
  intro s n t
  have hkept : ∀ (T : Timer) (e : Action), e ∈ s.queue → e ∈ (schedule n T t s).queue :=
    fun T e he => mem_queue_schedule n T t s he
  exact ⟨fun h => if_neg h, fun v e he => ⟨hkept _ e he, hkept _ e he, hkept _ e he, hkept _ e he⟩⟩

/-- What a borrow leaves of the first timer of its chain, when it reaches the timer once (R483). -/
theorem timer_borrowChain_self {d : Fin 12} {ds : List (Fin 12)} (hd : d ∉ ds) (t : Nat) (s : State) :
    ((timer s d).linked = false → timer (borrowChain t (d :: ds) s) d = timer s d) ∧
    ((timer s d).linked = true → (timer s d).count ≠ 0 →
      timer (borrowChain t (d :: ds) s) d =
        { timer s d with borrowIn := true, count := (timer s d).count - 1 }) ∧
    ((timer s d).linked = true → (timer s d).count = 0 →
      timer (borrowChain t (d :: ds) s) d =
        { ({ timer s d with borrowIn := true } : Timer).fired t with
          base := if (timer s d).enReload then t else (timer s d).base }) := by
  refine ⟨fun hl => ?_, fun hl hc => ?_, fun hl hc => ?_⟩
  · rw [borrowChain_not_linked t ds hl]
  · rw [borrowChain_count t ds hl hc, setTimer_timer_self]
  · have hclk : (timer s d).clk = 7 := by simp_all [Timer.linked]
    rw [borrowChain_fire t ds hl hc, timer_fireTail_self, timer_borrowChain_of_not_mem hd, timer_fireHead,
      if_pos rfl, setTimer_timer_self]
    cases he : (timer s d).enReload <;> simp [Timer.fired, Timer.runs, hclk, he]

/-- Settles O46: the head and the tail of a fire leave the timer below alone, and the borrow reaches it first. -/
theorem linkedBorrow : Obligations.LinkedBorrow := by
  intro s n d t hdown D takes D'
  obtain ⟨hdn, hchain, hd⟩ := chainFrom_of_downstream hdown
  have hhead : timer (fireHead n t s) d = D := by rw [timer_fireHead, if_neg hdn]
  have hD' : D' = timer (borrowChain t (d :: chainFrom n 11 d) (fireHead n t s)) d := by
    simp only [D', timerFire, timer_fireTail_of_ne hdn, hchain]
  have htakes : D.linked = takes := by
    simp only [takes, Timer.linked, Timer.takesBorrow, beq_eq_decide, Bool.and_assoc]
  have hborrow := timer_borrowChain_self hd t (fireHead n t s)
  rw [← hD', hhead, htakes] at hborrow
  obtain ⟨hleft, hcount, hfire⟩ := hborrow
  refine ⟨hleft, hcount, fun ht hc => ?_⟩
  rw [hfire ht hc]
  exact ⟨rfl, rfl, rfl, rfl, rfl, rfl⟩

/-! ## The interrupt of a fire (R489) -/

/-- The trigger of a fire takes no pending bit away. -/
theorem getLsbD_triggerInt {n : Fin 12} {t : Nat} {s : State} {k : Nat} (h : s.intPending.getLsbD k = true) :
    (triggerInt n t s).intPending.getLsbD k = true := by
  simp only [triggerInt]
  split
  · rw [setPending_intPending, BitVec.getLsbD_or, h, Bool.true_or]
  · exact h

/-- No part of a fire takes pending bit `k` away. -/
theorem pending_fireStable (t k : Nat) :
    FireStable t fun s u => s.intPending.getLsbD k = true → u.intPending.getLsbD k = true where
  refl _ := id
  trans h₁ h₂ := h₂ ∘ h₁
  head n s h := by
    rw [fireHead_intPending]
    exact getLsbD_triggerInt h
  borrow _ _ _ _ _ := id
  tail n s h := by
    simp only [fireTail]
    split
    · rwa [schedule_eq]
    · exact h

/-- A fire of a system timer with its interrupt enabled sets its bit. -/
theorem triggerInt_sets {n : Fin 12} {s : State} (t : Nat) (hn : n.val < 8) (he : (timer s n).enInt = true) :
    (triggerInt n t s).intPending.getLsbD n.val = true := by
  rw [triggerInt_of_enInt t hn he, setPending_intPending]
  simp [hn]

/-- A bit that was clear is told when a fire sets it. -/
theorem irqUpdate_mem_triggerInt {n : Fin 12} {s : State} {t : Nat} (hn : n.val < 8)
    (he : (timer s n).enInt = true) (hc : s.intPending.getLsbD n.val = false) :
    { tick := t, kind := .irqUpdate } ∈ (triggerInt n t s).queue := by
  have hset := triggerInt_sets t hn he
  rw [triggerInt_of_enInt t hn he] at hset ⊢
  rw [setPending_intPending] at hset
  exact irqUpdate_mem_setPending fun h => by simp [h, hc] at hset

/-- Settles O47: the head of the fire sets the bit and tells it, and the rest of the fire takes neither away. -/
theorem timerInterrupt : Obligations.TimerInterrupt := by
  intro s n t
  refine ⟨fun k => (pending_fireStable t k).timerFire n s, fun hn he => ⟨?_, fun hc => ?_⟩⟩
  · have hrest := (pending_fireStable t n.val)
    refine hrest.trans (hrest.borrowChain _ (fireHead n t s)) (hrest.tail n _) ?_
    rw [fireHead_intPending]
    exact triggerInt_sets t hn (by rw [setTimer_timer_self]; exact he)
  · have hrest : Tells (fireHead n t s) (timerFire n t s) :=
      ((tells_fireStable t).borrowChain _ _).trans (fireTail_tells n t _)
    refine hrest.queue ((triggerDevice_onlyDisplay n t _).tells.queue ?_)
    exact irqUpdate_mem_triggerInt hn (by rw [setTimer_timer_self]; exact he) hc

/-! ## A timer set up by two register writes (R484, R485, R491) -/

/-- A timer that predicts no fire has no count to bring up to date. -/
theorem sync_of_unscheduled {T : Timer} (h : T.predicted = none) (t : Nat) : T.sync t = T := by
  have hc : T.countAt t = T.count := by simp only [Timer.countAt, h]
  rw [Timer.sync, hc]

/-- A backup write to a timer that does not count, where it loads the count. -/
theorem timer_backupWrite_of_stopped {n : Fin 12} {s : State} (B : Byte) (t : Nat)
    (hc : (timer s n).enCount = false) (hp : (timer s n).predicted = none) :
    timer (backupWrite true n B t s) n = { timer s n with backup := B, count := B, base := t } := by
  simp only [backupWrite, timer_schedule_self, sync_of_unscheduled hp, Timer.runs, hc, Bool.false_and,
    Bool.false_eq_true, if_false, if_true, ← hp]

/-- The clock code of a control A write, as a number. -/
theorem toNat_ctlaFields_clk (n : Fin 12) (v : Byte) (T : Timer) : (ctlaFields n v T).clk.toNat = v.toNat % 8 := by
  simp [ctlaFields, BitVec.extractLsb'_toNat]

theorem ctlaFields_clk_ne {v : Byte} (n : Fin 12) (T : Timer) (h : v.toNat % 8 ≠ 7) :
    (ctlaFields n v T).clk ≠ 7 :=
  fun he => h (by rw [← toNat_ctlaFields_clk n v T, he]; rfl)

/-- A control A write lets a timer run that has a backup, if it enables counting on a clock and does not leave the
timer done without reload. -/
theorem runs_ctlaFields {n : Fin 12} {v : Byte} {T : Timer} (hB : T.backup ≠ 0) (hcount : v.getLsbD 3 = true)
    (hclk : v.toNat % 8 ≠ 7) (hdone : v.getLsbD 6 = true ∨ T.done = false ∨ v.getLsbD 4 = true) :
    (ctlaFields n v T).runs = true := by
  have hlive : ((ctlaFields n v T).done && !(ctlaFields n v T).enReload) = false := by
    rcases hdone with h | h | h <;> simp [ctlaFields, h]
  have hen : (ctlaFields n v T).enCount = true := hcount
  have hB' : (ctlaFields n v T).backup ≠ 0 := hB
  simp only [Timer.runs, hlive, hen, bne_iff_ne.2 (ctlaFields_clk_ne n T hclk), bne_iff_ne.2 hB',
    Bool.and_self, Bool.not_false]

/-- A control A write schedules the fire of a timer that predicted none, if the fields it sets let the timer run. -/
theorem ctlaWrite_schedules {n : Fin 12} {v : Byte} {u : Nat} {s : State} (hp : (timer s n).predicted = none)
    (hr : (ctlaFields n v (timer s n)).runs = true) :
    let f := u + ((timer s n).count.toNat + 1) * 16 * 2 ^ (v.toNat % 8)
    timer (ctlaWrite n v u s) n = { ctlaFields n v (timer s n) with base := u, predicted := some f } ∧
      { tick := f, kind := .timer n } ∈ (ctlaWrite n v u s).queue := by
  intro f
  have hf : u + (ctlaFields n v (timer s n)).delay = f := by
    rw [Timer.delay, unit_eq, toNat_ctlaFields_clk, ← Nat.mul_assoc]
    rfl
  rw [ctlaWrite, sync_of_unscheduled hp, timer_schedule_self, schedule_eq]
  simp only [if_pos hr, hf, mem_insertAction, true_or, and_self]

/-- Settles O43: the control A write schedules the fire of the timer that the backup write has set, and the fire is
that of R482. -/
theorem timerProperty : Obligations.TimerProperty := by
  intro s n B v t u hstop hnone hB hcount hclk hdone s' period T
  have hset := timer_backupWrite_of_stopped B t hstop hnone
  have hruns : (ctlaFields n v (timer (backupWrite true n B t s) n)).runs = true := by
    rw [hset]
    exact runs_ctlaFields hB hcount hclk hdone
  obtain ⟨htimer, hmem⟩ := ctlaWrite_schedules (u := u) (by rw [hset]; exact hnone) hruns
  rw [hset] at htimer hmem hruns
  have hpred : (timer s' n).predicted = some (u + period) := by rw [htimer]
  have hstale : ∀ x, x ≠ u + period → timerEvent n x s' = s' := fun x hx =>
    (staleFireIgnored s' n x).1 (by rw [hpred]; exact fun h => hx (Option.some.inj h).symm)
  have hT : T = timer (timerFire n (u + period) s') n := congrArg (timer · n) (if_pos hpred)
  have hreloads : (timer s' n).enReload = v.getLsbD 4 := by rw [htimer]; rfl
  rw [hT]
  refine ⟨hpred, hmem, hstale, timer_timerFire_done n _ s', fun hv => ?_, fun hv =>
    timer_timerFire_of_no_reload _ (hreloads.trans hv)⟩
  have hruns' : (timer s' n).runs = true := by rw [htimer]; exact hruns
  have hbackup : (timer s' n).backup = B := by rw [htimer]; rfl
  have hclk' : (timer s' n).clk.toNat = v.toNat % 8 := by
    rw [htimer]
    exact toNat_ctlaFields_clk n v { timer s n with backup := B, count := B, base := t }
  have hfire := timer_timerFire_of_reload (u + period) (hreloads.trans hv) hruns'
  rw [hbackup, hclk', ← Nat.mul_assoc] at hfire
  exact hfire

end Sys2Proof.Machine
end

section
/-! Proofs for the family of 60_exceptions.md: what every step keeps of the timers' schedule (R480, R481), of the
interrupt level on its way to the CPU (R502, R540, R541) and of the display (R511, R512). Only an event and a write of
a chip B register reach the devices, so an invariant of the devices that both keep is kept by every step. -/

namespace Sys2Proof.Machine

/-! ## What a step does to the devices -/

/-- `t` has the devices of `s`, and its CPU is not asleep unless that of `s` was. -/
structure SameDevices (s t : State) : Prop where
  timers : t.timers = s.timers
  queue : t.queue = s.queue
  irq : t.irqMask.irq = s.irqMask.irq
  intPending : t.intPending = s.intPending
  display : t.display = s.display
  sleep : t.cpuRun = .sleep → s.cpuRun = .sleep

theorem SameDevices.refl (s : State) : SameDevices s s := ⟨rfl, rfl, rfl, rfl, rfl, id⟩

theorem SameDevices.trans {s t u : State} (h₁ : SameDevices s t) (h₂ : SameDevices t u) : SameDevices s u :=
  ⟨h₂.timers.trans h₁.timers, h₂.queue.trans h₁.queue, h₂.irq.trans h₁.irq, h₂.intPending.trans h₁.intPending,
    h₂.display.trans h₁.display, h₁.sleep ∘ h₂.sleep⟩

/-- A property of the devices that a write of a chip B register keeps, and an event. -/
structure DeviceInvariant (P : State → Prop) : Prop where
  congr : ∀ {s t}, P s → SameDevices s t → P t
  write : ∀ (o v : Byte) (t : Nat) {s}, P s → P (chipBWrite o v t s)
  event : ∀ {s}, P s → P (drain s)

/-! ### The sprite engine (R531) -/

theorem scbStore_cpuRun (d : ScbDst) (bytes : List Byte) (s : State) : (scbStore d bytes s).cpuRun = s.cpuRun := by
  cases d <;> rfl

theorem flushBoth_cpuRun (k : AfterFlush) (s : State) : (flushBoth k s).cpuRun = s.cpuRun := by
  simp only [flushBoth]
  split
  · rfl
  · split
    · rfl
    · cases k <;> rfl

theorem drawPixels_cpuRun (ps : List Pixel) (s : State) : (drawPixels ps s).cpuRun = s.cpuRun := by
  induction ps generalizing s with
  | nil => exact flushBoth_cpuRun _ s
  | cons p ps ih =>
    have hc : (if collides s p.c then addColl Config.depoSource p s else s).cpuRun = s.cpuRun := by
      split <;> rfl
    rw [drawPixels]
    split
    · rfl
    · rw [← hc]
      generalize (if collides s p.c then addColl Config.depoSource p s else s) = s₁
      dsimp only
      split
      · rfl
      · rw [ih]
        split <;> rfl

theorem lineData_cpuRun (todo : List (Addr × Bool)) (s : State) : (lineData todo s).cpuRun = s.cpuRun := by
  cases todo with
  | nil => exact drawPixels_cpuRun _ _
  | cons q todo => rfl

theorem walk_cpuRun (s : State) : (walk s).cpuRun = s.cpuRun := by
  simp only [walk]
  split
  · exact flushBoth_cpuRun _ s
  · rfl

theorem walkAgain_cpuRun (s : State) : (walkAgain s).cpuRun = s.cpuRun := walk_cpuRun _

theorem loadBody_cpuRun (todo : List (ScbDst × Addr)) (s : State) : (loadBody todo s).cpuRun = s.cpuRun := by
  cases todo <;> rfl

theorem loadHead_cpuRun (todo : List (ScbDst × Addr)) (s : State) : (loadHead todo s).cpuRun = s.cpuRun := by
  cases todo with
  | nil =>
    simp only [loadHead]
    split
    · exact walk_cpuRun s
    · exact loadBody_cpuRun _ s
  | cons q todo => rfl

theorem endSprite_cpuRun (s : State) : (endSprite s).cpuRun = s.cpuRun := by
  simp only [endSprite]
  split
  · rfl
  · exact walkAgain_cpuRun s

theorem lineOffset_cpuRun (o : Byte) (s : State) : (lineOffset o s).cpuRun = s.cpuRun := by
  simp only [lineOffset]
  split
  · exact endSprite_cpuRun s
  · split
    · split
      · rfl
      · exact endSprite_cpuRun s
    · exact lineData_cpuRun _ _

/-- The engine, resumed, leaves the CPU as it is, but for FINISH, which lets it run (R533). -/
theorem sprResume_cpuRun (bytes : List Byte) (s : State) :
    (sprResume bytes s).cpuRun = s.cpuRun ∨ (sprResume bytes s).cpuRun = .run := by
  simp only [sprResume]
  split
  case h_1 | h_2 | h_4 => exact .inl rfl
  case h_3 => exact .inl ((loadHead_cpuRun _ _).trans (scbStore_cpuRun _ _ s))
  case h_5 => exact .inl ((loadBody_cpuRun _ _).trans (scbStore_cpuRun _ _ s))
  case h_6 => exact .inl (lineOffset_cpuRun _ s)
  case h_7 => exact .inl (lineData_cpuRun _ _)
  case h_8 => exact .inl (drawPixels_cpuRun _ s)
  case h_9 => exact .inl (drawPixels_cpuRun _ _)
  case h_10 => exact .inl (flushBoth_cpuRun _ s)
  case h_11 => exact .inl (walkAgain_cpuRun s)
  case h_12 => exact .inr rfl

theorem OnlySprite.sameDevices {s t : State} (h : OnlySprite s t) (hr : t.cpuRun = .sleep → s.cpuRun = .sleep) :
    SameDevices s t := by
  refine ⟨?_, ?_, ?_, ?_, ?_, hr⟩
  all_goals
    unfold OnlySprite at h
    rw [h]

theorem spriteStep_sameDevices {s t : State} (h : spriteStep s = .ok t) : SameDevices s t := by
  obtain ⟨r, -, -, rfl⟩ := spriteStep_ok h
  rw [sprService_frame]
  refine SameDevices.trans (t := _) ?_ ((sprResume_onlySprite _ _).sameDevices fun hr => ?_)
  · exact ⟨rfl, rfl, rfl, rfl, rfl, id⟩
  · rcases sprResume_cpuRun _ _ with he | he
    · exact he ▸ hr
    · rw [he] at hr
      cases hr

/-! ### A request of the CPU (20_memory.md R103) -/

theorem chipAWrite_sameDevices (o v : Byte) (s : State) : SameDevices s (chipAWrite o v s) := by
  simp only [chipAWrite]
  cases regA o <;> exact ⟨rfl, rfl, rfl, rfl, rfl, id⟩

theorem DeviceInvariant.busWrite {P : State → Prop} (h : DeviceInvariant P) (a : Addr) (v : Byte) {s : State}
    (hs : P s) : P (busWrite a v s) := by
  simp only [Machine.busWrite]
  cases regionOf a s.mapctl with
  | ram | rom i | mapctl => exact h.congr hs ⟨rfl, rfl, rfl, rfl, rfl, id⟩
  | chipA o => exact h.congr hs (chipAWrite_sameDevices o v s)
  | chipB o => exact h.write o v s.now hs

theorem DeviceInvariant.serve {P : State → Prop} (h : DeviceInvariant P) (r : Request) {s : State} (hs : P s) :
    P (serve r s).2 := by
  have ha : P (access r s).2 := by
    simp only [access]
    split
    · exact h.busWrite r.addr r.value hs
    · rw [busRead_frame]
      exact h.congr hs ⟨rfl, rfl, rfl, rfl, rfl, id⟩
  exact h.congr ha ⟨rfl, rfl, rfl, rfl, rfl, id⟩

theorem Micro.after_sameDevices (m : Micro) (v : Byte) (s : State) : SameDevices s (m.after v s) := by
  cases m <;> exact ⟨rfl, rfl, rfl, rfl, rfl, id⟩

theorem Micro.before_sameDevices (m : Micro) (s : State) : SameDevices s (m.before s) := by
  cases m <;> exact ⟨rfl, rfl, rfl, rfl, rfl, id⟩

theorem suspend_sameDevices (r : Request) (k : Cont) (s : State) : SameDevices s (suspend r k s) :=
  ⟨rfl, rfl, rfl, rfl, rfl, id⟩

theorem advancePc_sameDevices (s : State) : SameDevices s (advancePc s) := ⟨rfl, rfl, rfl, rfl, rfl, id⟩

/-- Up to its next request a sequence works on the CPU alone. -/
theorem emit_sameDevices (l : List Micro) (s : State) : SameDevices s (emit l s) := by
  induction l generalizing s with
  | nil => exact ⟨rfl, rfl, rfl, rfl, rfl, id⟩
  | cons m rest ih =>
    cases hr : m.request s with
    | none =>
      rw [emit_internal hr]
      exact (m.after_sameDevices 0 s).trans (ih _)
    | some r =>
      rw [emit_request hr]
      exact (m.before_sameDevices s).trans (suspend_sameDevices r _ _)

theorem fetchOrRun_sameDevices (op : Byte) (got : List Byte) (s : State) :
    SameDevices s (fetchOrRun op got s).emit := by
  simp only [fetchOrRun]
  split
  · exact suspend_sameDevices _ _ s
  · exact emit_sameDevices _ s

/-- Acknowledgement does not reach the level in the mask (R463). -/
theorem acknowledge_irq (m : IrqMask) : (acknowledge m).irq = m.irq := by
  simp only [acknowledge]
  split <;> rfl

/-- However the CPU is resumed, up to its next request it works on itself alone. -/
theorem cpuResume_sameDevices (k : Cont) (v : Byte) (s : State) : SameDevices s (cpuResume k v s).emit := by
  cases k with
  | boundary =>
    have hack : SameDevices s { s with irqMask := acknowledge s.irqMask } :=
      ⟨rfl, rfl, acknowledge_irq s.irqMask, rfl, rfl, id⟩
    simp only [cpuResume, boundaryResume]
    split
    · exact hack.trans (emit_sameDevices _ _)
    · exact hack.trans ((advancePc_sameDevices _).trans (fetchOrRun_sameDevices v [] _))
  | operands op got =>
    exact (advancePc_sameDevices s).trans (fetchOrRun_sameDevices op _ _)
  | running seq =>
    cases seq with
    | nil => exact emit_sameDevices [] s
    | cons m rest => exact (m.after_sameDevices v s).trans (emit_sameDevices rest _)

theorem DeviceInvariant.cpuStep {P : State → Prop} (h : DeviceInvariant P) {s t : State} (hs : P s)
    (ht : cpuStep s = .ok t) : P t := by
  cases hq : cpuService s with
  | error f => simp [Machine.cpuStep, hq] at ht
  | ok q =>
    obtain ⟨r, -, rfl⟩ := cpuService_ok hq
    simp only [Machine.cpuStep, hq, Except.ok.injEq] at ht
    exact ht ▸ h.congr (h.serve r hs) (cpuResume_sameDevices _ _ _)

/-! ### The step -/

theorem DeviceInvariant.arbiterStep {P : State → Prop} (h : DeviceInvariant P) {s t : State} (hs : P s)
    (ht : arbiterStep s = .ok t) : P t := by
  simp only [Machine.arbiterStep] at ht
  split at ht
  · exact Except.ok.inj ht ▸ h.event hs
  · exact h.congr hs (spriteStep_sameDevices ht)
  · exact h.cpuStep hs ht
  · refine Except.ok.inj ht ▸ h.congr hs ?_
    simp only [idleJump]
    split <;> exact ⟨rfl, rfl, rfl, rfl, rfl, id⟩
  · cases ht

theorem DeviceInvariant.arbiterRun {P : State → Prop} (h : DeviceInvariant P) {n : Nat} {s t : State} (hs : P s)
    (ht : arbiterRun n s = .ok t) : P t := by
  induction n generalizing s with
  | zero => cases ht; exact hs
  | succ n ih =>
    simp only [Machine.arbiterRun] at ht
    split at ht
    · cases ht
    · next s' hs' => exact ih (h.arbiterStep hs hs') ht

/-- Every step is a run of arbiter steps, each of which keeps an invariant of the devices. -/
theorem DeviceInvariant.step {P : State → Prop} (h : DeviceInvariant P) {s t : State} (hs : P s)
    (ht : step s = .next t) : P t := by
  obtain ⟨n, -, hn⟩ := stepIsArbiterSteps.1 s t ht
  exact h.arbiterRun hs hn

/-! ## What the handlers and the register writes do to the queue -/

theorem pushData_tells (t : Nat) (b : List Byte) (s : State) : Tells s (pushData t b s) := by
  simp only [pushData]
  split
  · exact .refl s
  · split
    · split
      · exact .of_eq (subset_insertAction _ _) rfl
      · exact .of_eq (List.Subset.refl _) rfl
    · exact .of_eq (List.Subset.refl _) rfl

theorem dmaBurst_tells (t : Nat) (s : State) : Tells s (dmaBurst t s) := by
  obtain ⟨hq, hp⟩ := pushData_tells t (ramReads s s.display.dmaAddr 8)
    { s with now := s.now + Config.dmaBurstCost, seqNext := none }
  exact ⟨hq, hp⟩

theorem timerEvent_tells (n : Fin 12) (t : Nat) (s : State) : Tells s (timerEvent n t s) := by
  simp only [timerEvent]
  split
  · exact (tells_fireStable t).timerFire n s
  · exact .refl s

/-- A write of CPUSLEEP starts a sprite run or sets the run state of the CPU (R530, R540). -/
theorem cpusleepWrite_onlySprite (s : State) : OnlySprite s (cpusleepWrite s) := by
  simp only [cpusleepWrite]
  split
  · exact startRun_onlySprite s
  · split
    · exact .refl s
    · rfl

/-- A write of a chip B register loses no action, and a change of the pending bits is told. -/
theorem chipBWrite_tells (o v : Byte) (t : Nat) (s : State) : Tells s (chipBWrite o v t s) := by
  simp only [chipBWrite]
  cases regB o with
  | backup n | ctla n | count n => exact schedule_tells n _ t s
  | ctlb n =>
    refine Tells.trans ?_ (schedule_tells n _ t _)
    simp only [storeHigh]
    split <;> exact .of_eq (List.Subset.refl _) rfl
  | intrst | intset => exact setPending_tells t _ s
  | cpusleep =>
    have h := cpusleepWrite_onlySprite s
    unfold OnlySprite at h
    rw [h]
    exact .of_eq (List.Subset.refl _) rfl
  | _ => exact .of_eq (List.Subset.refl _) rfl

/-! ## The timers' schedule (R480, R481) -/

/-- A fire at `f` is the one that the fields of timer `n` give, and its action is in the queue. -/
def FireDue (s : State) (n : Fin 12) (f : Nat) : Prop :=
  (timer s n).runs = true ∧ f = (timer s n).base + (timer s n).delay ∧ { tick := f, kind := .timer n } ∈ s.queue

theorem FireDue.mono {s t : State} {n : Fin 12} {f : Nat} (h : FireDue s n f) (ht : timer t n = timer s n)
    (hq : s.queue ⊆ t.queue) : FireDue t n f := by
  obtain ⟨hruns, hf, hmem⟩ := h
  exact ⟨by rw [ht, hruns], by rw [ht, hf], hq hmem⟩

theorem TimersScheduled.mono {s t : State} (h : TimersScheduled s) (ht : t.timers = s.timers)
    (hq : s.queue ⊆ t.queue) : TimersScheduled t := by
  intro n f hf
  have hn := timer_congr ht n
  rw [hn] at hf
  exact FireDue.mono (h n f hf) hn hq

/-- A linked timer predicts no fire: it may not be scheduled. -/
theorem TimersScheduled.predicted_of_linked {s : State} {n : Fin 12} (h : TimersScheduled s)
    (hclk : (timer s n).clk = 7) : (timer s n).predicted = none := by
  cases hp : (timer s n).predicted with
  | none => rfl
  | some f =>
    obtain ⟨hruns, -⟩ := h n f hp
    simp [Timer.runs, hclk] at hruns

/-- The schedule of every timer holds after a change of timer `n` alone, if that of `n` does. -/
theorem timersScheduled_of_others {s t : State} {n : Fin 12}
    (h : ∀ m, m ≠ n → ∀ f, (timer s m).predicted = some f → FireDue s m f)
    (hn : ∀ f, (timer t n).predicted = some f → FireDue t n f) (ht : ∀ m, m ≠ n → timer t m = timer s m)
    (hq : s.queue ⊆ t.queue) : TimersScheduled t := by
  intro m f hf
  by_cases hm : m = n
  · subst hm
    exact hn f hf
  · exact FireDue.mono (h m hm f (ht m hm ▸ hf)) (ht m hm) hq

/-- A schedule computation predicts the fire that it enqueues. -/
theorem schedule_timersScheduled (n : Fin 12) (T : Timer) (t : Nat) {s : State} (h : TimersScheduled s) :
    TimersScheduled (schedule n T t s) := by
  refine timersScheduled_of_others (n := n) (fun m _ => h m) (fun f hf => ?_)
    (fun m hm => by rw [timer_schedule, if_neg hm]) fun _ he => mem_queue_schedule n T t s he
  rw [timer_schedule_self] at hf
  cases hr : T.runs with
  | false => simp [hr] at hf
  | true =>
    obtain rfl : t + T.delay = f := by simpa [hr] using hf
    rw [FireDue, timer_schedule_self, schedule_eq, if_pos hr]
    exact ⟨hr, rfl, by simp only [if_pos hr, mem_insertAction, true_or]⟩

theorem fireHead_timersScheduled {n : Fin 12} {s : State} (t : Nat)
    (h : ∀ m, m ≠ n → ∀ f, (timer s m).predicted = some f → FireDue s m f) : TimersScheduled (fireHead n t s) :=
  timersScheduled_of_others h (by simp [timer_fireHead, Timer.fired])
    (fun m hm => by rw [timer_fireHead, if_neg hm]) (fireHead_tells n t s).queue

theorem fireTail_timersScheduled (n : Fin 12) (t : Nat) {s : State} (h : TimersScheduled s) :
    TimersScheduled (fireTail n t s) := by
  simp only [fireTail]
  split
  · exact schedule_timersScheduled n _ t h
  · exact h

theorem timersScheduled_fireStable (t : Nat) : FireStable t fun s u => TimersScheduled s → TimersScheduled u where
  refl _ := id
  trans h₁ h₂ := h₂ ∘ h₁
  head n s h := fireHead_timersScheduled t fun m _ => h m
  borrow n T s hclk hp h := by
    refine timersScheduled_of_others (fun m _ => h m) (fun f hf => ?_) (fun m hm => setTimer_timer_ne hm T s)
      (setTimer_tells n T s).queue
    rw [setTimer_timer_self, hp, h.predicted_of_linked hclk] at hf
    cases hf
  tail n s := fireTail_timersScheduled n t

/-- A fire predicts anew for its own timer, and needs the schedule of the others alone. -/
theorem timerFire_timersScheduled {n : Fin 12} {s : State} (t : Nat)
    (h : ∀ m, m ≠ n → ∀ f, (timer s m).predicted = some f → FireDue s m f) : TimersScheduled (timerFire n t s) :=
  fireTail_timersScheduled n t
    ((timersScheduled_fireStable t).borrowChain _ _ (fireHead_timersScheduled t h))

/-- The handler of an action that was taken out of the queue: if the action was a predicted fire, that fire is no
longer predicted when it has been made. -/
theorem handle_timersScheduled (e : Action) {s : State}
    (h : ∀ n f, (timer s n).predicted = some f → { tick := f, kind := .timer n } ≠ e → FireDue s n f) :
    TimersScheduled (handle e s) := by
  obtain ⟨t, k⟩ := e
  have hother : ∀ n f, (timer s n).predicted = some f → k ≠ .timer n → FireDue s n f :=
    fun n f hf hk => h n f hf fun he => hk (congrArg Action.kind he).symm
  cases k with
  | dma =>
    have hs : TimersScheduled s := fun n f hf => hother n f hf (by simp)
    exact hs.mono (by rw [handle, dmaBurst_frame]) (dmaBurst_tells t s).queue
  | timer n =>
    simp only [handle, timerEvent]
    split
    · exact timerFire_timersScheduled t fun m hm f hf => hother m f hf (by simpa using hm.symm)
    · next hp =>
      intro m f hf
      refine h m f hf fun he => hp ?_
      cases he
      exact hf
  | irqUpdate | endFrame => exact fun n f hf => hother n f hf (by simp)

theorem drain_timersScheduled {s : State} (h : TimersScheduled s) : TimersScheduled (drain s) := by
  simp only [drain]
  split
  · exact h
  · next e u hp =>
    obtain ⟨hq, hu⟩ := pop_eq_some.1 hp
    rw [hu]
    refine handle_timersScheduled e fun n f hf hne => ?_
    obtain ⟨hruns, hdelay, hmem⟩ := h n f hf
    rw [hq] at hmem
    exact ⟨hruns, hdelay, (List.mem_cons.1 hmem).resolve_left hne⟩

theorem chipBWrite_timersScheduled (o v : Byte) (t : Nat) {s : State} (h : TimersScheduled s) :
    TimersScheduled (chipBWrite o v t s) := by
  simp only [chipBWrite]
  cases regB o with
  | backup n | ctla n | count n => exact schedule_timersScheduled n _ t h
  | ctlb n =>
    refine schedule_timersScheduled n _ t ?_
    simp only [storeHigh]
    split <;> exact h
  | intrst | intset => exact h.mono (setPending_timers t _ s) (setPending_tells t _ s).queue
  | cpusleep =>
    have hw := cpusleepWrite_onlySprite s
    unfold OnlySprite at hw
    rw [hw]
    exact h
  | _ => exact h

theorem timersScheduled_invariant : DeviceInvariant TimersScheduled where
  congr h hs := h.mono hs.timers (by rw [hs.queue]; exact List.Subset.refl _)
  write o v t _ := chipBWrite_timersScheduled o v t
  event := drain_timersScheduled

/-- Settles O58: a fire that an event makes is predicted no longer, and every schedule computation predicts the fire
that it enqueues. -/
theorem timersKept : Obligations.TimersKept := fun _ _ hs => timersScheduled_invariant.step hs

/-! ## The interrupt level (R502, R540, R541) -/

/-- An action that tells the interrupt level is in the queue. -/
def Telling (s : State) : Prop := ∃ e ∈ s.queue, e.kind = .irqUpdate

/-- A condition on the level, the mask and a sleeping CPU that holds once the level has been told, and that a write of
CPUSLEEP keeps. -/
structure LevelCondition (I : State → Prop) : Prop where
  congr : ∀ {s t}, I s → t.irqMask.irq = s.irqMask.irq → t.intPending = s.intPending →
    (t.cpuRun = .sleep → s.cpuRun = .sleep) → I t
  told : ∀ s, I (irqUpdate s)
  sleep : ∀ {s}, I s → I (cpusleepWrite s)

/-- Where the mask and the CPU are as before, the condition goes on to hold or a change of the level is told. -/
theorem LevelCondition.of_tells {I : State → Prop} (h : LevelCondition I) {s t : State} (hs : I s ∨ Telling s)
    (ht : Tells s t) (hirq : t.irqMask.irq = s.irqMask.irq) (hrun : t.cpuRun = .sleep → s.cpuRun = .sleep) :
    I t ∨ Telling t := by
  rcases ht.told with hp | he
  · rcases hs with hi | ⟨e, he, hk⟩
    · exact .inl (h.congr hi hirq hp hrun)
    · exact .inr ⟨e, ht.queue he, hk⟩
  · exact .inr he

/-- Every handler but that of IRQ_UPDATE leaves the mask and the CPU alone. -/
theorem handle_tells {e : Action} (he : e.kind ≠ .irqUpdate) (s : State) :
    Tells s (handle e s) ∧ (handle e s).irqMask = s.irqMask ∧ (handle e s).cpuRun = s.cpuRun := by
  simp only [handle]
  split
  · exact ⟨dmaBurst_tells _ s, by rw [dmaBurst_frame], by rw [dmaBurst_frame]⟩
  · next n _ =>
    have hd := timerEvent_onlyDevices n e.tick s
    unfold OnlyDevices at hd
    exact ⟨timerEvent_tells n _ s, by rw [hd], by rw [hd]⟩
  · next hk => exact absurd hk he
  · exact ⟨.of_eq (List.Subset.refl _) rfl, rfl, rfl⟩

/-- Every chip B register but CPUSLEEP leaves the mask and the CPU alone. -/
theorem chipBWrite_cpu {o : Byte} (ho : regB o ≠ .cpusleep) (v : Byte) (t : Nat) (s : State) :
    (chipBWrite o v t s).irqMask = s.irqMask ∧ (chipBWrite o v t s).cpuRun = s.cpuRun := by
  simp only [chipBWrite]
  cases hr : regB o with
  | backup n | ctla n | count n =>
    simp only [backupWrite, ctlaWrite, countWrite, schedule_eq, and_self]
  | ctlb n =>
    simp only [ctlbWrite, schedule_eq, storeHigh]
    split <;> exact ⟨rfl, rfl⟩
  | intrst | intset => simp only [intrstWrite, intsetWrite, setPending_eq, and_self]
  | cpusleep => exact absurd hr ho
  | _ => exact ⟨rfl, rfl⟩

/-- An event that is taken out of the queue tells the level, or leaves its telling in the queue. -/
theorem LevelCondition.drain {I : State → Prop} (h : LevelCondition I) {s : State} (hs : I s ∨ Telling s) :
    I (drain s) ∨ Telling (drain s) := by
  simp only [Machine.drain]
  split
  · exact hs
  · next e u hp =>
    obtain ⟨hq, hu⟩ := pop_eq_some.1 hp
    by_cases he : e.kind = .irqUpdate
    · have hh : handle e u = irqUpdate u := by simp only [handle, he]
      exact .inl (hh ▸ h.told u)
    · have hpop : I u ∨ Telling u := by
        rcases hs with hi | ⟨x, hx, hk⟩
        · exact .inl (h.congr hi (by rw [hu]) (by rw [hu]) fun hr => by rwa [hu] at hr)
        · rw [hq] at hx
          exact .inr ⟨x, (List.mem_cons.1 hx).resolve_left fun hxe => he (hxe ▸ hk), hk⟩
      obtain ⟨ht, hirq, hrun⟩ := handle_tells he u
      exact h.of_tells hpop ht (by rw [hirq]) (by rw [hrun]; exact id)

theorem LevelCondition.invariant {I : State → Prop} (h : LevelCondition I) :
    DeviceInvariant fun s => I s ∨ Telling s where
  congr hs hd := h.of_tells hs (.of_eq (by rw [hd.queue]; exact List.Subset.refl _) hd.intPending) hd.irq hd.sleep
  write o v t s hs := by
    have ht := chipBWrite_tells o v t s
    by_cases ho : regB o = .cpusleep
    · have hw : chipBWrite o v t s = cpusleepWrite s := by simp only [chipBWrite, ho]
      rw [hw] at ht ⊢
      exact hs.imp h.sleep fun ⟨e, he, hk⟩ => ⟨e, ht.queue he, hk⟩
    · obtain ⟨hirq, hrun⟩ := chipBWrite_cpu ho v t s
      exact h.of_tells hs ht (by rw [hirq]) (by rw [hrun]; exact id)
  event := h.drain

theorem levelTold_condition : LevelCondition fun s => s.irqMask.irq = irqLine s where
  congr hs hirq hp _ := by rw [hirq, hs, irqLine, irqLine, hp]
  told _ := rfl
  sleep {s} hs := by
    have hw := cpusleepWrite_onlySprite s
    unfold OnlySprite at hw
    rw [hw]
    exact hs

/-- No CPU sleeps while an interrupt is pending. -/
def Awake (s : State) : Prop := s.cpuRun = .sleep → irqLine s = false

theorem sleepEnds_iff {s : State} : SleepEnds s ↔ Awake s ∨ Telling s := by
  refine ⟨fun h => ?_, fun h hr hl => h.resolve_left fun ha => ?_⟩
  · by_cases hr : s.cpuRun = .sleep ∧ irqLine s = true
    · exact .inr (h hr.1 hr.2)
    · exact .inl fun hs => Bool.eq_false_iff.2 fun hl => hr ⟨hs, hl⟩
  · rw [ha hr] at hl
    cases hl

theorem awake_condition : LevelCondition Awake where
  congr hs _ hp hrun hr := by rw [irqLine, hp]; exact hs (hrun hr)
  told s hr := by
    have hl : irqLine (irqUpdate s) = irqLine s := rfl
    rw [hl]
    cases hp : irqLine s with
    | false => rfl
    | true =>
      simp only [irqUpdate, hp, Bool.true_and, beq_iff_eq] at hr
      split at hr
      · cases hr
      · exact absurd hr ‹_›
  sleep {s} hs hr := by
    simp only [cpusleepWrite] at hr ⊢
    split at hr
    · rw [(startRun_asks s).1.1] at hr
      cases hr
    · next hstart =>
      rw [if_neg hstart]
      split at hr
      · next hp => rw [if_pos hp]; exact hs hr
      · next hp => rw [if_neg hp]; exact Bool.eq_false_iff.2 hp

/-! ## The display in range (R511, R512, R514) -/

theorem DisplayInRange.congr {s t : State} (h : DisplayInRange s) (hd : t.display = s.display) :
    DisplayInRange t := by
  simpa only [DisplayInRange, hd] using h

theorem and_three_eq_zero_iff (a : Addr) : a &&& 3 = 0 ↔ a.toNat % 4 = 0 := by
  rw [← BitVec.toNat_inj, BitVec.toNat_and]
  exact Eq.congr_left (Nat.and_two_pow_sub_one_eq_mod a.toNat 2)

theorem breakFrame_inRange {b : Bool} {s : State} (h : DisplayInRange s) : DisplayInRange (breakFrame b s) := h

theorem finishOpenLine_inRange (t : Nat) {s : State} (h : DisplayInRange s) :
    DisplayInRange (finishOpenLine t s) := by
  simp only [finishOpenLine]
  split <;> exact h

/-- The DMA address is latched with its low two bits cleared. -/
theorem latchDmaAddr_inRange (r : Byte) {s : State} (h : DisplayInRange s) : DisplayInRange (latchDmaAddr r s) := by
  have ⟨hburst, hrow, _⟩ := h
  simp only [latchDmaAddr]
  split
  · exact ⟨hburst, hrow, by simp only [BitVec.and_assoc]; exact BitVec.and_zero⟩
  · exact h

/-- A row is opened only if it is visible. -/
theorem openRow_inRange (t : Nat) (r : Byte) {s : State} (h : DisplayInRange s) : DisplayInRange (openRow t r s) := by
  obtain ⟨hburst, -, haddr⟩ := h
  simp only [openRow]
  split
  · next ho =>
    obtain ⟨-, hr⟩ : _ ∧ r.toNat < 102 := by simpa using ho
    exact ⟨Nat.zero_le _, fun q hq => Option.some.inj hq ▸ hr, haddr⟩
  · exact ⟨hburst, fun _ hq => (nomatch hq), haddr⟩

theorem hblank_inRange (t : Nat) (r : Byte) {s : State} (h : DisplayInRange s) : DisplayInRange (hblank t r s) :=
  openRow_inRange t r (latchDmaAddr_inRange r (finishOpenLine_inRange t (breakFrame_inRange h)))

theorem vblank_inRange (t : Nat) {s : State} (h : DisplayInRange s) : DisplayInRange (vblank t s) := by
  obtain ⟨hburst, -, haddr⟩ := finishOpenLine_inRange t h
  exact ⟨hburst, fun _ hq => (nomatch hq), haddr⟩

theorem triggerDevice_inRange (n : Fin 12) (t : Nat) {s : State} (h : DisplayInRange s) :
    DisplayInRange (triggerDevice n t s) := by
  simp only [triggerDevice]
  split
  case h_1 => exact hblank_inRange t _ (breakFrame_inRange h)
  case h_2 => exact vblank_inRange t (breakFrame_inRange h)
  all_goals exact h

theorem displayInRange_fireStable (t : Nat) : FireStable t fun s u => DisplayInRange s → DisplayInRange u where
  refl _ := id
  trans h₁ h₂ := h₂ ∘ h₁
  head n s h := triggerDevice_inRange n t (h.congr (triggerInt_display n t _))
  borrow _ _ _ _ _ := id
  tail n s h := by
    simp only [fireTail]
    split
    · exact h.congr (by rw [schedule_eq])
    · exact h

/-- A burst moves the DMA address on by eight. -/
theorem pushData_inRange (t : Nat) (b : List Byte) {s : State} (h : DisplayInRange s) :
    DisplayInRange (pushData t b s) := by
  have ⟨hburst, hrow, hmask⟩ := h
  have haddr : (s.display.dmaAddr + 8) &&& 3 = 0 := by
    have hfour := (and_three_eq_zero_iff _).1 hmask
    rw [and_three_eq_zero_iff, BitVec.toNat_add, show (8 : Addr).toNat = 8 from rfl]
    omega
  simp only [pushData]
  split
  · exact h
  · split
    · next hb => split <;> exact ⟨hb, hrow, haddr⟩
    · exact ⟨hburst, hrow, haddr⟩

theorem handle_inRange (e : Action) {s : State} (h : DisplayInRange s) : DisplayInRange (handle e s) := by
  simp only [handle]
  cases e.kind with
  | dma => exact pushData_inRange _ _ h
  | timer n =>
    simp only [timerEvent]
    split
    · exact (displayInRange_fireStable _).timerFire n s h
    · exact h
  | irqUpdate | endFrame => exact h

theorem displayInRange_invariant : DeviceInvariant DisplayInRange where
  congr h hd := h.congr hd.display
  write o v t s h := by
    simp only [chipBWrite]
    cases regB o with
    | backup n | ctla n | count n => exact h.congr (by simp only [backupWrite, ctlaWrite, countWrite, schedule_eq])
    | ctlb n =>
      simp only [ctlbWrite, schedule_eq, storeHigh]
      split <;> exact h
    | intrst | intset => exact h.congr (setPending_display t _ s)
    | cpusleep =>
      have hw := cpusleepWrite_onlySprite s
      unfold OnlySprite at hw
      rw [hw]
      exact h
    | _ => exact h
  event {s} h := by
    simp only [drain]
    split
    · exact h
    · next e u hp =>
      obtain ⟨-, hu⟩ := pop_eq_some.1 hp
      exact handle_inRange e (h.congr (by rw [hu]))

/-- Settles O59: each of the three is an invariant of the devices; the first two are conditions that a change of the
level breaks only while it is being told. -/
theorem levelAndDisplayKept : Obligations.LevelAndDisplayKept := by
  intro s t ht
  refine ⟨fun h => levelTold_condition.invariant.step h ht, fun h => ?_,
    fun h => displayInRange_invariant.step h ht⟩
  exact sleepEnds_iff.2 (awake_condition.invariant.step (sleepEnds_iff.1 h) ht)

end Sys2Proof.Machine
end

section
/-! Proofs for the family of 60_exceptions.md: the display generator at hblank and vblank (R511 to R513, R515), the
colours of a finished row and the palette (R520 to R524). -/

namespace Sys2Proof.Machine

/-! ## Rows of a frame (R515, R522) -/

theorem lookup_cons_eq_ite (k q : Nat) (cs : List Colour) (rows : List (Nat × List Colour)) :
    List.lookup k ((q, cs) :: rows) = if k = q then some cs else List.lookup k rows := by
  rw [List.lookup_cons]
  cases hk : k == q <;> simp_all

theorem lookup_setRow (r k : Nat) (cs : List Colour) (rows : List (Nat × List Colour)) :
    (setRow r cs rows).lookup k = if k = r then some cs else rows.lookup k := by
  induction rows with
  | nil => exact lookup_cons_eq_ite k r cs []
  | cons row rows ih =>
    obtain ⟨q, ds⟩ := row
    simp only [setRow]
    split
    · exact lookup_cons_eq_ite k r cs _
    · split
      · next hq =>
        subst hq
        simp only [lookup_cons_eq_ite]
        split <;> rfl
      · next hq =>
        simp only [lookup_cons_eq_ite, ih]
        split
        · next hk => rw [if_neg (hk ▸ Ne.symm hq)]
        · rfl

/-- A finished row holds the colours of its pixels. -/
theorem framePixel_finishLine_self (t : Nat) (r : Byte) (s : State) {p : Nat} (hp : p < 160) :
    framePixel (finishLine t r s).display.frame r.toNat p = pixelColour s t p := by
  simp [framePixel, finishLine, lookup_setRow, hp]

/-- Finishing a row leaves the others alone. -/
theorem framePixel_finishLine_ne (t : Nat) {r : Byte} (s : State) {q : Nat} (p : Nat) (h : q ≠ r.toNat) :
    framePixel (finishLine t r s).display.frame q p = framePixel s.display.frame q p := by
  simp only [framePixel, finishLine, lookup_setRow, if_neg h]

/-! ## The palette (R520) -/

/-- A register read at `x` after a write stamped `t`. -/
theorem palAt_cons (t : Nat) (o v : Byte) (h : List PalWrite) (x : Nat) (reg : Byte) :
    palAt ({ tick := t, reg := o, value := v } :: h) x reg = if o = reg ∧ t ≤ x then v else palAt h x reg := by
  simp only [palAt, Bool.and_eq_true, decide_eq_true_eq]

theorem greenReg_inj {c d : Nibble} : greenReg c = greenReg d ↔ c = d := by
  revert c d; decide

theorem blueRedReg_inj {c d : Nibble} : blueRedReg c = blueRedReg d ↔ c = d := by
  revert c d; decide

theorem greenReg_ne_blueRedReg (c d : Nibble) : greenReg c ≠ blueRedReg d := by
  revert c d; decide

theorem regB_paletteReg (c : Nibble) : regB (greenReg c) = .palette ∧ regB (blueRedReg c) = .palette := by
  revert c; decide

/-- A colour is its green, and then its blue and red as one byte. -/
theorem colour_eq (g b r : Nibble) : (g ++ b ++ r : Colour) = g ++ (b ++ r : Byte) := BitVec.append_assoc

theorem colour_blueRed (g b r : Nibble) : (g ++ b ++ r : Colour).extractLsb' 0 8 = b ++ r := by
  rw [colour_eq]
  exact BitVec.extractLsb'_append_eq_right

theorem colour_green (g b r : Nibble) : (g ++ b ++ r : Colour).extractLsb' 8 4 = g := by
  rw [colour_eq]
  exact BitVec.extractLsb'_append_eq_left

/-- A palette write changes no colour in force before its tick. -/
theorem colourAt_before {t x : Nat} (o v : Byte) (h : List PalWrite) (c : Nibble) (hx : x < t) :
    colourAt ({ tick := t, reg := o, value := v } :: h) x c = colourAt h x c := by
  simp only [colourAt, palAt_cons, Nat.not_le.2 hx, and_false, if_false]

/-- A write of GREENc sets the green of `c` from its tick on, and nothing else. -/
theorem colourAt_green {t x : Nat} (v : Byte) (h : List PalWrite) (c d : Nibble) (hx : t ≤ x) :
    colourAt ({ tick := t, reg := greenReg c, value := v } :: h) x d =
      if d = c then loNib v ++ (colourAt h x c).extractLsb' 0 8 else colourAt h x d := by
  simp only [colourAt, palAt_cons, hx, and_true, greenReg_inj, greenReg_ne_blueRedReg, if_false,
    colour_blueRed]
  by_cases hd : d = c
  · subst hd
    rw [if_pos rfl, if_pos rfl, colour_eq]
  · rw [if_neg (Ne.symm hd), if_neg hd]

/-- A write of BLUEREDc sets the blue and the red of `c` from its tick on, and nothing else. -/
theorem colourAt_blueRed {t x : Nat} (v : Byte) (h : List PalWrite) (c d : Nibble) (hx : t ≤ x) :
    colourAt ({ tick := t, reg := blueRedReg c, value := v } :: h) x d =
      if d = c then (colourAt h x c).extractLsb' 8 4 ++ hiNib v ++ loNib v else colourAt h x d := by
  simp only [colourAt, palAt_cons, hx, and_true, blueRedReg_inj, (greenReg_ne_blueRedReg _ _).symm, if_false,
    colour_green]
  by_cases hd : d = c
  · subst hd
    rw [if_pos rfl, if_pos rfl]
  · rw [if_neg (Ne.symm hd), if_neg hd]

/-- A write of a palette register is stamped with its tick. -/
theorem palette_chipBWrite {o : Byte} (ho : regB o = .palette) (v : Byte) (t : Nat) (s : State) :
    (chipBWrite o v t s).palette = { tick := t, reg := o, value := v } :: s.palette := by
  simp only [chipBWrite, ho, paletteWrite_palette]

/-- Settles O51: a finished row is looked up pixel by pixel, and a palette register is read past the writes of the
others and past those that came later. -/
theorem finishedRow : Obligations.FinishedRow := by
  refine ⟨fun s t r p hp hb hm hbr => ?_, fun s t r q p h => framePixel_finishLine_ne t s p h,
    fun s t x o v c h => colourAt_before o v s.palette c h, fun s t x v c c' h => ?_⟩
  · rw [framePixel_finishLine_self t r s hp]
    simp only [pixelColour, delivered, hb, hm, hbr, decide_true, Bool.not_false, Bool.and_self, if_true]
    rfl
  · obtain ⟨hgreen, hblueRed⟩ := regB_paletteReg c
    have hg : ∀ d, colourAt (chipBWrite (greenReg c) v t s).palette x d = _ := fun d => by
      rw [palette_chipBWrite hgreen, colourAt_green v _ c d h]
    have hb : ∀ d, colourAt (chipBWrite (blueRedReg c) v t s).palette x d = _ := fun d => by
      rw [palette_chipBWrite hblueRed, colourAt_blueRed v _ c d h]
    exact ⟨(hg c).trans (if_pos rfl), (hb c).trans (if_pos rfl),
      fun hne => ⟨(hg c').trans (if_neg hne), (hb c').trans (if_neg hne)⟩⟩

/-! ## The frame at hblank and vblank (R512, R513, R515) -/

/-- The frame is broken at the hblank of an open row whose ten bursts were not drained or were not due before it. -/
theorem checkBursts_eq {t : Nat} {s : State} {q : Byte} (hq : s.display.row = some q) :
    checkBursts t s =
      breakFrame
        (decide (s.display.burst < 10 ∨
          t ≤ s.display.lineTick + Config.dmaFirstOffset + 9 * Config.dmaBurstInterval)) s := by
  have hfits : dmaFits (t - s.display.lineTick) =
      decide (s.display.lineTick + Config.dmaFirstOffset + 9 * Config.dmaBurstInterval < t) := by
    simp only [dmaFits, decide_eq_decide]
    omega
  rw [checkBursts, hfits, hq]
  simp only [Option.isSome_some, Bool.true_and, Bool.decide_or, ← decide_not, Nat.not_lt]

theorem finishOpenLine_of_open {t : Nat} {s : State} {q : Byte} (hq : s.display.row = some q) :
    finishOpenLine t s = finishLine t q s := by
  simp only [finishOpenLine, hq]

theorem finishOpenLine_of_closed {t : Nat} {s : State} (h : s.display.row = none) : finishOpenLine t s = s := by
  simp only [finishOpenLine, h]

/-- The machine in which the open row has been finished at an hblank, and not yet the next opened. -/
def rowDone (t : Nat) (s : State) : State := finishOpenLine t (checkBursts t s)

/-- Finishing the open row reaches the frame and the free values alone. -/
theorem rowDone_frame (t : Nat) (s : State) :
    rowDone t s =
      { s with
        display := { s.display with frame := (rowDone t s).display.frame, broken := (rowDone t s).display.broken }
        draws := (rowDone t s).draws } := by
  simp only [rowDone, finishOpenLine]
  split <;> rfl

/-- What an hblank does: the open row is finished, the DMA address latched at row 0, and the row opened if DMA is
enabled and the row is visible. -/
theorem hblank_eq (t : Nat) (r : Byte) (s : State) :
    let opens := s.display.dispctl.getLsbD 0 && decide (r.toNat < 102)
    hblank t r s =
      { s with
        draws := (rowDone t s).draws
        queue :=
          if opens then insertAction { tick := t + Config.dmaFirstOffset, kind := .dma } s.queue else s.queue
        display :=
          { s.display with
            frame := (rowDone t s).display.frame, broken := (rowDone t s).display.broken, flushed := 0
            dmaAddr := if r = 0 then s.display.dispadr &&& 0xFFFC else s.display.dmaAddr
            row := if opens then some r else none
            burst := if opens then 0 else s.display.burst
            lineTick := if opens then t else s.display.lineTick
            lineMode := if opens then s.display.dispctl else s.display.lineMode } } := by
  intro opens
  have hb : hblank t r s = openRow t r (latchDmaAddr r (rowDone t s)) := rfl
  rw [hb, rowDone_frame]
  have hlatch : ∀ u : State, latchDmaAddr r u =
      { u with display :=
        { u.display with dmaAddr := if r = 0 then u.display.dispadr &&& 0xFFFC else u.display.dmaAddr } } := by
    intro u
    simp only [latchDmaAddr]
    split <;> rfl
  rw [hlatch, openRow]
  cases ho : opens with
  | true => exact if_pos ho
  | false => exact if_neg (Bool.eq_false_iff.1 ho)

/-- A broken frame has no row, and its pixels are free values. -/
theorem framePixel_breakFrame (s : State) (k p : Nat) :
    framePixel (breakFrame true s).display.frame k p = Config.freeColour s.draws (k * 160 + p) := rfl

/-- In a broken frame a finished row takes free values too. -/
theorem pixelColour_breakFrame (s : State) (t p : Nat) :
    pixelColour (breakFrame true s) t p = Config.freeColour (s.draws + 1) p := by
  have hb : (breakFrame true s).display.broken = true := Bool.or_true _
  simp only [pixelColour, hb, Bool.not_true, Bool.and_false, Bool.false_eq_true, if_false]
  rfl

theorem rowDone_of_closed {t : Nat} {s : State} (h : s.display.row = none) : rowDone t s = s := by
  rw [rowDone, checkBursts_of_fits (.inl h), finishOpenLine_of_closed h]

/-- The open row is finished, in a broken frame if its bursts came late. -/
theorem rowDone_of_open {t : Nat} {s : State} {q : Byte} (hq : s.display.row = some q) :
    rowDone t s =
      finishLine t q
        (breakFrame
          (decide (s.display.burst < 10 ∨
            t ≤ s.display.lineTick + Config.dmaFirstOffset + 9 * Config.dmaBurstInterval)) s) := by
  rw [rowDone, checkBursts_eq hq]
  exact finishOpenLine_of_open hq

/-- The period that timer 0 is set to is too short for ten bursts. -/
theorem hblankPeriod_short (s : State) :
    let T := timer s 0
    ((hblankPeriod s).any fun p => !dmaFits p) =
      (T.enReload && T.enCount && decide (T.clk ≠ 7) && decide (T.backup ≠ 0) &&
        decide ((T.backup.toNat + 1) * (16 * 2 ^ T.clk.toNat) ≤
          Config.dmaFirstOffset + 9 * Config.dmaBurstInterval)) := by
  intro T
  have hfits : (!dmaFits ((T.backup.toNat + 1) * T.unit)) =
      decide ((T.backup.toNat + 1) * (16 * 2 ^ T.clk.toNat) ≤
        Config.dmaFirstOffset + 9 * Config.dmaBurstInterval) := by
    simp only [dmaFits, unit_eq, ← decide_not, Nat.not_lt]
  rw [← reload_and_runs, ← hfits, hblankPeriod]
  cases T.enReload && T.runs <;> rfl

/-- Before a display call the frame is broken if the period that timer 0 is set to is too short. -/
theorem checkPeriod_eq (short : Bool) {s : State} (h : ((hblankPeriod s).any fun p => !dmaFits p) = short) :
    checkPeriod (hblankPeriod s) s =
      if short then
        { s with
          display := { s.display with broken := true, frame := { rows := [], draw := s.draws } }
          draws := s.draws + 1 }
      else s := by
  rw [checkPeriod, h]
  cases short with
  | false => exact breakFrame_false s
  | true => simp only [breakFrame, Bool.or_true, if_true]

/-- A vblank finishes the open row, closes it, and hands the frame over (R515). -/
theorem vblank_eq (t : Nat) (s : State) :
    (vblank t s).display.row = none ∧ (vblank t s).queue = s.queue ∧
      (vblank t s).out = .frame t (vblank t s).display.frame :: s.out ∧
      (vblank t s).display.frame = (finishOpenLine t s).display.frame := by
  refine ⟨rfl, ?_, ?_, rfl⟩
  all_goals
    simp only [vblank, finishOpenLine]
    split <;> rfl

/-- Settles O49: an hblank as a whole, with the open row finished in the frame as it is or in a broken one. -/
theorem hblankAndVblank : Obligations.HblankAndVblank := by
  refine ⟨?_, ?_, ?_⟩
  · intro s t r d h opens late
    have hh : h = _ := hblank_eq t r s
    have hrowDone : h.display.frame = (rowDone t s).display.frame ∧
        h.display.broken = (rowDone t s).display.broken := by
      rw [hh]
      exact ⟨rfl, rfl⟩
    refine ⟨fun hrow => ?_, fun q hq => ?_, by rw [hh], fun ho => ?_, fun ho => ?_,
      by rw [hh], by rw [hh], by rw [hh], by rw [hh], by rw [hh]⟩
    · rw [rowDone_of_closed hrow] at hrowDone
      exact hrowDone
    · have hopen : rowDone t s = finishLine t q (breakFrame late s) := rowDone_of_open hq
      rw [hrowDone.1, hrowDone.2, hopen]
      refine ⟨fun hl => ?_, fun hl => ?_⟩
      · rw [hl, breakFrame_false]
        exact ⟨rfl, rfl⟩
      · rw [hl]
        refine ⟨Bool.or_true _, fun p hp => ?_, fun k p hk => ?_⟩
        · rw [framePixel_finishLine_self t q _ hp, pixelColour_breakFrame]
        · rw [framePixel_finishLine_ne t _ p hk, framePixel_breakFrame]
    · rw [hh]
      exact ⟨if_pos ho, if_pos ho, if_pos ho, if_pos ho⟩
    · rw [hh]
      exact ⟨if_neg (Bool.eq_false_iff.1 ho), if_neg (Bool.eq_false_iff.1 ho)⟩
  · intro s t v
    obtain ⟨hrow, hqueue, hout, hframe⟩ := vblank_eq t s
    refine ⟨hrow, hqueue, hout, fun h => ?_, fun q h => ?_⟩
    · exact hframe.trans (by rw [finishOpenLine_of_closed h])
    · exact hframe.trans (by rw [finishOpenLine_of_open h])
  · intro s t T short s'
    have hs' : checkPeriod (hblankPeriod s) s = s' := checkPeriod_eq short (hblankPeriod_short s)
    rw [← hs']
    exact ⟨rfl, rfl⟩

end Sys2Proof.Machine
end

section
/-! Proofs for the family of 60_exceptions.md: the walk over a skipped sprite (R532, R537), and how the sprite engine and
a sleeping CPU get and give back the bus (R530, R533, R540). -/

namespace Sys2Proof.Machine

/-! ## A skipped sprite (R532, R537) -/

/-- A sprite step that reads one byte at the head of an SCB: the byte goes to its register, and the head goes on. -/
theorem spriteStep_head {d : ScbDst} {a : Addr} {todo : List (ScbDst × Addr)} {s : State}
    (hr : s.spr.req = some (sprRead .readByte a)) (hc : s.spr.cont = .head ((d, a) :: todo))
    (hk : scbReq (d, a) = sprRead .readByte a) :
    spriteStep s =
      .ok (loadHead todo (scbStore d [ramRead s a] { s with now := s.now + Config.sprCost .readByte })) := by
  have hawaits : s.spr.cont.awaits (sprRead .readByte a).kind = true := by
    rw [hc, SprCont.awaits, hk]
    rfl
  simp only [spriteStep, hr, hawaits, if_true]
  simp only [sprService, sprRead, sprResume, hc]
  rfl

/-- What is left when the reads `todo` at the head of an SCB have been made, one byte each. -/
def headRead : List (ScbDst × Addr) → State → State
  | [], s => loadHead [] s
  | (d, a) :: todo, s =>
    headRead todo
      (scbStore d [ramRead s a]
        { loadHead ((d, a) :: todo) s with now := s.now + Config.sprCost .readByte })

/-- As many sprite steps as there are reads at the head of an SCB. -/
theorem spriteRun_head {todo : List (ScbDst × Addr)} (hk : ∀ q ∈ todo, scbReq q = sprRead .readByte q.2) (s : State) :
    spriteRun todo.length (loadHead todo s) = .ok (headRead todo s) := by
  induction todo generalizing s with
  | nil => rfl
  | cons q todo ih =>
    obtain ⟨hq, htodo⟩ := List.forall_mem_cons.1 hk
    obtain ⟨d, a⟩ := q
    have hr : (loadHead ((d, a) :: todo) s).spr.req = some (sprRead .readByte a) := congrArg some hq
    simp only [List.length_cons, spriteRun, spriteStep_head hr rfl hq]
    exact ih htodo _

theorem scbReq_scbHead (scb : Addr) : ∀ q ∈ scbHead scb, scbReq q = sprRead .readByte q.2 := by
  simp only [scbHead, List.forall_mem_cons, List.not_mem_nil, false_imp_iff, implies_true, and_true]
  exact ⟨rfl, rfl, rfl, rfl, rfl⟩

/-- The head of the walk, at an SCB, asks for the first byte of the SCB's head. -/
theorem walkAgain_eq_loadHead {s : State} (h : hiByte s.chipA.scbnext ≠ 0) :
    walkAgain s =
      loadHead (scbHead s.chipA.scbnext)
        { s with spr := { s.spr with st := .loadScb, scbAddr := s.chipA.scbnext } } :=
  if_neg h

/-- With both buffers empty the walk goes on to the next SCB, or asks for FINISH. -/
theorem walk_of_empty {s : State} (hc : s.spr.coll.mask = 0) (hv : s.spr.video.mask = 0)
    (ha : s.spr.st.active = true) :
    (walk s).ram = s.ram ∧ (walk s).chipA = s.chipA ∧ (walk s).now = s.now ∧ spriteActive (walk s) = true ∧
      (walk s).spr.req =
        some (if hiByte s.chipA.scbnext = 0 then sprRead .finish 0 else sprRead .readByte s.chipA.scbnext) := by
  by_cases hn : hiByte s.chipA.scbnext = 0
  · have hw : walk s = sprEmit (sprRead .finish 0) .finish s := by
      simp only [walk, if_pos hn, flushBoth, hc, hv, bne_self_eq_false, Bool.false_eq_true, if_false, afterFlush]
    rw [hw, if_pos hn]
    exact ⟨rfl, rfl, rfl, ha, rfl⟩
  · simp only [walk, if_neg hn]
    exact ⟨rfl, rfl, rfl, rfl, rfl⟩

/-- The machine after the five reads at the head of the SCB at `scb`: two registers hold bytes of it, the time of the
reads has passed, and RAM and the buffers are as before. -/
theorem headRead_scbHead (scb : Addr) (s : State) :
    ∃ u, headRead (scbHead scb) s = loadHead [] u ∧ u.chipA.sprctl1 = ramRead s (scb + 1) ∧
      u.chipA.scbnext = pair (ramRead s (scb + 4)) (ramRead s (scb + 3)) ∧ u.ram = s.ram ∧
      u.now = s.now + 5 * Config.sprCost .readByte ∧ u.spr.coll = s.spr.coll ∧ u.spr.video = s.spr.video ∧
      u.spr.st = s.spr.st := by
  refine ⟨_, rfl, rfl, rfl, rfl, ?_, rfl, rfl, rfl⟩
  change s.now + _ + _ + _ + _ + _ = _
  omega

/-- Settles O53: the five reads of the head load SPRCTL1 and SCBNEXT, and the skip bit sends the walk on. -/
theorem skippedSprite : Obligations.SkippedSprite := by
  intro s scb next hscb hcoll hvideo hskip
  have hrun := spriteRun_head (scbReq_scbHead scb)
    { s with spr := { s.spr with st := .loadScb, scbAddr := scb } }
  rw [← walkAgain_eq_loadHead hscb] at hrun
  obtain ⟨u, hu, hctl, hnext, hram, hnow, hc, hv, hst⟩ :=
    headRead_scbHead scb { s with spr := { s.spr with st := .loadScb, scbAddr := scb } }
  have hwalk : loadHead [] u = walk u := if_pos (hctl ▸ hskip)
  rw [hu, hwalk] at hrun
  obtain ⟨hram', hchip, hnow', hactive, hreq⟩ :=
    walk_of_empty (s := u) (by rw [hc]; exact hcoll) (by rw [hv]; exact hvideo) (by rw [hst]; rfl)
  refine ⟨walk u, hrun, hram'.trans hram, ?_, hnow'.trans hnow, hactive, ?_⟩
  · rw [hchip, hnext]
    rfl
  · rw [hreq, hnext]
    rfl

/-! ## Sleep, and the run of the sprite engine (R530, R533, R540) -/

/-- The service of a FINISH request ends the run (R533). -/
theorem spriteStep_finish {s : State} (hc : s.spr.cont = .finish) (hr : s.spr.req = some (sprRead .finish 0)) :
    spriteStep s = .ok (finishRun { s with now := s.now + Config.sprCost .finish }) := by
  simp only [spriteStep, hr, hc, sprRead, sprService, sprResume]
  rfl

/-- Settles O52: the three branches of a CPUSLEEP write, and the service of a FINISH request. -/
theorem sleepAndSpriteRun : Obligations.SleepAndSpriteRun := by
  intro s v t w starts
  have hw : w = cpusleepWrite s := rfl
  rw [hw, cpusleepWrite]
  refine ⟨fun hs => ?_, fun hs hp => ?_, fun hs hp => ?_, fun hc hr => ?_⟩
  · rw [if_pos hs]
    obtain ⟨hrun, hactive⟩ := (startRun_asks s).1
    have hsame := startRun_onlySprite s
    unfold OnlySprite at hsame
    exact ⟨hrun, hactive, by rw [hsame], by rw [hsame]⟩
  · have hno : ¬ (s.intPending != 0) = true := by simp [hp]
    rw [if_neg (Bool.eq_false_iff.1 hs), if_neg hno]
  · have hyes : (s.intPending != 0) = true := bne_iff_ne.2 hp
    rw [if_neg (Bool.eq_false_iff.1 hs), if_pos hyes]
  · exact ⟨_, spriteStep_finish hc hr, rfl, rfl, rfl, rfl, rfl, rfl⟩

end Sys2Proof.Machine
end

section
/-! Proofs for the family of 60_exceptions.md: the CPU's own entries at a fetch boundary, RESET, NMI and IRQ (R456 to
R463), and the first step from power-on (R462). -/

namespace Sys2Proof.Machine

/-! ## What is taken at a fetch boundary (R456, R463) -/

/-- The machine `s` at tick `n`, with interrupt mask `m` and predictor `p`. -/
def withMask (m : IrqMask) (n : Nat) (p : Option Addr) (s : State) : State :=
  { s with irqMask := m, now := n, seqNext := p }

/-- The response to an opcode fetch, where an interrupt is taken: the mask is acknowledged and the sequence of the
interrupt begins. -/
theorem cpuService_interrupt {s : State} {seq : List Micro} (hcont : s.cont = .boundary)
    (hreq : s.req = some { kind := .fetchOpcode, addr := s.regs.pc, value := 0 })
    (hint : interruptFor s.irqMask s.regs = some seq) (hc : onChip s s.regs.pc = false) :
    ∃ n p, n ≤ s.now + Config.slowCost ∧
      cpuService s = .ok (.seq seq (withMask (acknowledge s.irqMask) n p s)) := by
  generalize hr : ({ kind := .fetchOpcode, addr := s.regs.pc, value := 0 } : Request) = r at hreq
  have hca : onChip s r.addr = false := by rw [← hr]; exact hc
  have hk : r.kind ≠ .write := by rw [← hr]; simp
  refine ⟨s.now + cost r s, predict r s.mapctl, Nat.add_le_add_left (cost_le_slow hca) _, ?_⟩
  rw [cpuService_eq hreq (by rw [hcont, ← hr]; rfl), serve_read hca hk, hcont]
  simp only [cpuResume, boundaryResume, hint, withMask, hcont]

/-- In a ready state at a fetch boundary the sequence of an interrupt is performed, with time for seven requests. -/
theorem step_interrupt {s : State} {seq : List Micro} (hs : Ready s) (hcont : s.cont = .boundary)
    (hreq : s.req = some { kind := .fetchOpcode, addr := s.regs.pc, value := 0 })
    (hint : interruptFor s.irqMask s.regs = some seq) :
    ∃ n p,
      Quiet 7 (withMask (acknowledge s.irqMask) n p s) ∧
        step s = .next (perform seq (withMask (acknowledge s.irqMask) n p s)) := by
  obtain ⟨n, p, hn, hq⟩ := cpuService_interrupt hcont hreq hint hs.onChip_pc
  refine ⟨n, p, quiet_after hs.1 rfl rfl rfl hn, ?_⟩
  simp only [step_of_turn, turn_of_quiet hs.1, cpuTurn, hq, meaning]

/-- A sequence that runs from a quiet state to a fetch boundary with registers `r` and RAM `m`. -/
theorem atBoundary_of_runsTo {n : Nat} {seq : List Micro} {u : State} {r : Regs} {m : List Host.Cell}
    (hq : Quiet n u) (h : RunsTo n seq u (retire { u with regs := r, ram := m })) :
    (perform seq u).ram = m ∧ AtBoundary { u with ram := m } r (perform seq u) := by
  obtain ⟨ho, ht⟩ := h
  have hsame := perform_calm hq ho
  rw [ht] at hsame
  exact ⟨by rw [hsame]; rfl, hsame⟩

/-- A vector does not depend on the time and the interrupt mask. -/
theorem vectorAt_withMask {a : Addr} (m : IrqMask) (n : Nat) (p : Option Addr) (s : State)
    (hlo : 0xFFFA ≤ a.toNat) (hhi : 0xFFFA ≤ (a + 1).toNat) : vectorAt (withMask m n p s) a = vectorAt s a := by
  rw [vectorAt_plain (onChip_vectors _ hlo) (onChip_vectors _ hhi),
    vectorAt_plain (onChip_vectors s hlo) (onChip_vectors s hhi)]
  rfl

/-! ## NMI and IRQ (R457, R458) -/

/-- The sequence of an interrupt discards a read at PC and takes the exception with B = 0. -/
theorem perform_interruptSeq {u : State} {vec : Addr} (hq : Quiet 7 u) (hpc : onChip u u.regs.pc = false)
    (hw : Memory.wf 65536 u.ram = true) (hlo : 0xFFFA ≤ vec.toNat) (hhi : 0xFFFA ≤ (vec + 1).toNat) :
    let t := perform (interruptSeq vec u.regs) u
    AtBoundary { u with ram := t.ram }
        { u.regs with
          s := u.regs.s - 3, pc := vectorAt u vec, p := { u.regs.p with i := true, d := false } } t ∧
      ∀ b, ramRead t b =
        pushed (pushed (pushed (ramRead u) u.regs.s (hiByte u.regs.pc)) (u.regs.s - 1) (loByte u.regs.pc))
          (u.regs.s - 2) (statusByte u.regs.p false) b := by
  intro t
  have hrun : RunsTo 7 (interruptSeq vec u.regs) u _ :=
    (RunsTo.discard hpc (runsTo_exceptionSeq false hw hlo hhi)).mono (by decide)
  obtain ⟨hram, hbound⟩ :=
    atBoundary_of_runsTo (m := (afterPush (u.regs.p.toByte false) (afterPushPc u)).ram) hq hrun
  refine ⟨?_, fun b => ?_⟩
  · rw [show t.ram = _ from hram]
    exact hbound
  · rw [← toByte_eq_statusByte, ← afterPushPc_sp, ← ramRead_afterPushPc hw,
      ← ramRead_afterPush _ (afterPushPc_wf hw), ramRead, show t.ram = _ from hram, ramRead]

/-- NMI comes before IRQ, and IRQ is taken with I clear (R456, R457). -/
theorem interruptFor_of_pending {m : IrqMask} {r : Regs} (hreset : m.reset = false)
    (h : m.nmi = true ∨ m.irq = true ∧ r.p.i = false) :
    interruptFor m r = some (interruptSeq (if m.nmi then nmiVector else irqVector) r) := by
  cases hn : m.nmi with
  | true => simp [interruptFor, hreset, hn]
  | false =>
    obtain ⟨hirq, hi⟩ := h.resolve_left (by simp [hn])
    simp [interruptFor, hreset, hn, hirq, hi]

theorem acknowledge_of_no_reset {m : IrqMask} (h : m.reset = false) : acknowledge m = { m with nmi := false } := by
  simp only [acknowledge, h, Bool.false_eq_true, if_false]

/-- Settles O40: the sequence of the interrupt, performed from the machine with the mask acknowledged. -/
theorem interruptEntry : Obligations.InterruptEntry := by
  intro s hs hcont hreq hreset hpending r vector
  obtain ⟨n, p, hq, hstep⟩ := step_interrupt hs hcont hreq (interruptFor_of_pending hreset hpending)
  rw [acknowledge_of_no_reset hreset] at hq hstep
  have hlo : 0xFFFA ≤ vector.toNat := by simp only [vector]; split <;> decide
  have hhi : 0xFFFA ≤ (vector + 1).toNat := by simp only [vector]; split <;> decide
  obtain ⟨hbound, hram⟩ := perform_interruptSeq hq hs.onChip_pc hs.ram_wf hlo hhi
  rw [vectorAt_withMask _ n p s hlo hhi] at hbound
  exact ⟨_, hstep, hbound, hram⟩

/-! ## RESET (R461) -/

theorem runsTo_resetSeq (u : State) :
    RunsTo 2 resetSeq u
      (retire { u with
                regs :=
                  { u.regs with
                    pc := vectorAt u resetVector, p := { u.regs.p with i := true, d := false } } }) := by
  have hlo : onChip u resetVector = false := onChip_vectors u (by decide)
  have hhi : onChip u (resetVector + 1) = false := onChip_vectors u (by decide)
  rw [vectorAt_plain hlo hhi]
  exact .read rfl hlo (.read rfl hhi (.internal rfl (.last rfl)))

/-- Settles O41: the reset sequence makes two reads and no push. -/
theorem resetEntry : Obligations.ResetEntry := by
  intro s hs hcont hreq hreset
  obtain ⟨n, p, hq, hstep⟩ := step_interrupt hs hcont hreq (if_pos hreset)
  rw [show acknowledge s.irqMask = { s.irqMask with reset := false } from if_pos hreset] at hq hstep
  obtain ⟨-, hbound⟩ := atBoundary_of_runsTo (m := s.ram) hq ((runsTo_resetSeq _).mono (by decide))
  rw [vectorAt_withMask _ n p s (by decide) (by decide)] at hbound
  exact ⟨_, hstep, hbound⟩

/-! ## Power-on (R462, R602) -/

/-- A read of a byte of the ROM: it is fast if it follows the read before it (20_memory.md R110, R111). -/
theorem serve_readReq_rom {a : Addr} {s : State} {i : Nat} (h : regionOf a s.mapctl = .rom i) :
    serve (readReq a) s =
      (romRead s i,
        { s with
          seqNext := some (a + 1)
          now := s.now +
            if s.mapctl.getLsbD 7 = false ∧ s.seqNext = some a then Config.fastCost else Config.slowCost }) := by
  have hmem : (regionOf a s.mapctl).isMemory = true := by rw [h]; rfl
  have hchip : onChip s a = false := by simp only [onChip, h]
  have hcost : cost (readReq a) s = _ := (cost_of_isMemory (r := readReq a) hmem).trans (if_neg nofun)
  have hpredict : predict (readReq a) s.mapctl = _ :=
    (predict_eq (readReq a) s.mapctl).trans (if_pos ⟨hmem, nofun⟩)
  rw [serve_read (r := readReq a) hchip nofun, hcost, hpredict, ← byteAt_rom h]
  rfl

/-- A read of a byte of the ROM inside a sequence, made on the CPU's turn. -/
theorem perform_read_rom {a : Addr} {d : Loc} {rest : List Micro} {s : State} {i : Nat} (ht : turn s = .cpu)
    (h : regionOf a s.mapctl = .rom i) :
    perform (.read (.fixed a) d :: rest) s =
      perform rest
        { s with
          req := some (readReq a), cont := .running (.read (.fixed a) d :: rest)
          loc := s.loc.set d (romRead s i), seqNext := some (a + 1)
          now := s.now +
            if s.mapctl.getLsbD 7 = false ∧ s.seqNext = some a then Config.fastCost else Config.slowCost } := by
  have ht' : turn (suspend (readReq a) (.running (.read (.fixed a) d :: rest)) s) = .cpu := ht
  exact (perform_request (m := .read (.fixed a) d) rfl ht').trans
    (congrArg (fun q => perform rest ((Micro.read (.fixed a) d).after q.1 q.2))
      (serve_readReq_rom (s := suspend (readReq a) (.running (.read (.fixed a) d :: rest)) s) h))

/-- The reset sequence with its first read in flight, while nothing is scheduled and no page is overlaid: a slow read
and a fast one. -/
theorem step_resetSeq {s : State} (hq : s.queue = []) (hs : spriteActive s = false) (hr : s.cpuRun = .run)
    (hm : s.mapctl = 0) (hn : s.seqNext = none) (hreq : s.req = some (readReq 0xFFFC))
    (hcont : s.cont = .running resetSeq) (hloc : s.loc = Locals.clear) :
    step s =
      .next
        { s with
          regs :=
            { s.regs with
              pc := pair (romRead s 0x1FD) (romRead s 0x1FC), p := { s.regs.p with i := true, d := false } }
          req := some { kind := .fetchOpcode, addr := pair (romRead s 0x1FD) (romRead s 0x1FC), value := 0 }
          cont := .boundary
          now := s.now + Config.slowCost + Config.fastCost, seqNext := some 0xFFFE } := by
  have hturn : ∀ u : State, u.queue = s.queue → u.spr = s.spr → u.cpuRun = s.cpuRun → turn u = .cpu :=
    fun u hq' hs' hr' => turn_eq_cpu_iff.2
      ⟨by simp only [due, hq', hq], by simpa only [spriteActive, hs'] using hs, hr'.trans hr⟩
  have hlo : serve (readReq 0xFFFC) s =
      (romRead s 0x1FC, { s with seqNext := some 0xFFFD, now := s.now + Config.slowCost }) := by
    rw [serve_readReq_rom (i := 0x1FC) (by rw [hm]; rfl), if_neg (by simp [hn])]
    rfl
  rw [step_of_turn, hturn s rfl rfl rfl]
  simp only [cpuTurn, cpuService_eq (r := readReq 0xFFFC) hreq (by rw [hcont]; rfl), hlo, hcont, resetSeq, cpuResume,
    meaning]
  rw [perform_read_rom (i := 0x1FD), if_pos, perform_internal rfl, perform_internal rfl, perform_nil]
  · rw [hloc]
    rfl
  · exact ⟨by simp only [Micro.after, hm]; rfl, rfl⟩
  · exact hturn _ rfl rfl rfl
  · simp only [Micro.after, hm]
    rfl

theorem romRead_reset {i : Nat} (h : i < 512) : romRead State.reset i = Config.bootRom i := by
  simp [romRead, State.reset, h]

/-- Settles O5: power-on leaves the first read of the reset sequence in flight. -/
theorem powerOnSequence : Obligations.PowerOnSequence := by
  have hnow : State.reset.now + Config.slowCost = Config.slowCost := Nat.zero_add _
  rw [Obligations.PowerOnSequence, step_resetSeq rfl rfl rfl rfl rfl rfl rfl rfl, romRead_reset (by decide),
    romRead_reset (by decide), hnow]

end Sys2Proof.Machine
end

section
/-! Proofs for the family of 70_reset_and_hazards.md: the values at power-on (R600) with the invariant of the machine
there, and a host reset (R603). -/

namespace Sys2Proof.Machine

/-! ## Power-on (R600) -/

theorem timer_reset (n : Fin 12) : timer State.reset n = Timer.reset := by
  simp only [timer, State.reset, Fin.getElem_fin, Vector.getElem_replicate]

theorem rom_reset (i : Fin 512) : State.reset.rom[i.val]? = some (Config.bootRom i.val) := by
  simp [State.reset]

theorem rom_length_reset : State.reset.rom.length = 512 := by
  simp only [State.reset, List.length_map, List.length_range]

/-- Settles O4: every timer is `Timer.reset`, the ROM is `boot_rom`, and the other fields stand in `State.reset`. -/
theorem resetState : Obligations.ResetState := by
  refine ⟨rfl, rfl, rfl, rfl, rfl, rfl, rfl, rom_reset, rom_length_reset, fun n => ?_, rfl, rfl, rfl, rfl, rfl, rfl,
    rfl, rfl, rfl, rfl, rfl, rfl, rfl, rfl⟩
  rw [timer_reset]
  exact ⟨rfl, rfl, rfl, rfl, rfl, rfl, rfl, rfl, rfl⟩

/-! ## The invariant at power-on -/

/-- The reset sequence waits on a read, which need not be at PC. -/
theorem cpuWaits_reset : CpuWaits State.reset :=
  ⟨_, rfl, rfl, nofun⟩

/-- Settles O55: nothing is scheduled, predicted or pending, no row is open, and the CPU waits on the first read of the
reset sequence. -/
theorem invHoldsAtReset : Obligations.InvHoldsAtReset where
  memory := rfl
  rom := rom_length_reset
  queue := rfl
  cpu := cpuWaits_reset
  sprite := nofun
  stalled := ⟨nofun, nofun⟩
  timers n f h := by rw [timer_reset] at h; cases h
  level := .inl rfl
  sleep := nofun
  display := ⟨Nat.zero_le _, nofun, rfl⟩

/-! ## A host reset (R603) -/

theorem timer_hostReset (s : State) (n : Fin 12) : timer (hostReset s) n = (timer s n).hostReset s.now := by
  simp only [timer, hostReset, Fin.getElem_fin, Vector.getElem_map]

theorem mem_queue_hostReset (s : State) (e : Action) :
    e ∈ (hostReset s).queue ↔ e ∈ s.queue ∧ e.kind = .endFrame := by
  simp only [hostReset, List.mem_filter, Action.survivesReset, beq_iff_eq]

/-- Settles O42: each timer is that of `Timer.hostReset`, the queue is filtered, and the other fields are set or kept by
`hostReset` itself. -/
theorem hostResetState : Obligations.HostResetState := by
  intro s t
  refine ⟨rfl, rfl, rfl, rfl, rfl, rfl, rfl, rfl, rfl, rfl, rfl, rfl, rfl, rfl, rfl, mem_queue_hostReset s, fun n => ?_,
    rfl, rfl, rfl, rfl, rfl, rfl, rfl, rfl, rfl, rfl, rfl⟩
  rw [show timer t n = _ from timer_hostReset s n]
  exact ⟨rfl, rfl, rfl, rfl, rfl, rfl, rfl, rfl, rfl, rfl, rfl⟩

end Sys2Proof.Machine
end

section
/-! Proofs for the family of 70_reset_and_hazards.md: the time of a bus sequence where every request takes `slowCost`,
and the number of requests of every instruction (R616, R617). -/

namespace Sys2Proof.Machine

/-! ## The time of a sequence (20_memory.md R110) -/

/-- MAPCTL takes both chips off the bus and turns the sequential cost off (20_memory.md R81, R110). -/
structure SlowBus (m : Byte) : Prop where
  chipA : m.getLsbD 0 = true
  chipB : m.getLsbD 1 = true
  sequential : m.getLsbD 7 = true

theorem SlowBus.onChip {s : State} (h : SlowBus s.mapctl) (a : Addr) : onChip s a = false := by
  simp only [Machine.onChip]
  split
  case h_1 hr | h_2 hr =>
    simp only [regionOf, h.chipA, h.chipB, if_true] at hr
    repeat' split at hr
    all_goals cases hr
  all_goals rfl

theorem SlowBus.cost {s : State} (h : SlowBus s.mapctl) (r : Request) : cost r s = Config.slowCost := by
  have hc := h.onChip r.addr
  cases hr : regionOf r.addr s.mapctl with
  | chipA o | chipB o => simp [Machine.onChip, hr] at hc
  | mapctl => simp only [Machine.cost, hr]
  | ram | rom => rw [cost_of_isMemory (by rw [hr]; rfl)]; simp [h.sequential]

/-- The access of a request, without its time, leaves everything but RAM and MAPCTL. -/
theorem plainAccess_frame (r : Request) (s : State) :
    (plainAccess r s).2 = { s with ram := (plainAccess r s).2.ram, mapctl := (plainAccess r s).2.mapctl } := by
  simp only [plainAccess]
  split <;> rfl

/-- Servicing any request takes `slowCost`. -/
theorem SlowBus.serve {s : State} (h : SlowBus s.mapctl) (r : Request) :
    ∃ p, serve r s =
      ((plainAccess r s).1, { (plainAccess r s).2 with now := s.now + Config.slowCost, seqNext := p }) := by
  obtain ⟨n, p, -, hs⟩ := serve_plain (h.onChip r.addr)
  have hn : (Machine.serve r s).2.now = s.now + Config.slowCost := by
    simp only [Machine.serve, access_now, h.cost]
  rw [hs] at hn
  exact ⟨p, by rw [hs, show n = _ from hn]⟩

/-- The machine after the request of an element was made on the CPU's turn and answered. -/
def answered (r : Request) (m : Micro) (rest : List Micro) (s : State) : State :=
  let q := serve r (suspend r (.running (m :: rest)) (m.before s))
  m.after q.1 q.2

/-- The requests that a sequence makes when it is performed without interruption. -/
def requestCount : List Micro → State → Nat
  | [], _ => 0
  | m :: rest, s =>
    match m.request s with
    | none => requestCount rest (m.after 0 s)
    | some r => requestCount rest (answered r m rest s) + 1

/-- Whether an element never makes a request. -/
def Micro.internal : Micro → Bool
  | .setEa _ | .setVal _ | .setLo _ | .pointer _ | .act _ => true
  | _ => false

/-- Whether an element may write MAPCTL: a push reaches the stack page alone. -/
def Micro.stores : Micro → Bool
  | .write _ _ | .writeBack _ _ => true
  | _ => false

/-- A store that may write MAPCTL is the last request of the sequence. -/
def storesLast : List Micro → Bool
  | [] => true
  | m :: rest => if m.stores then rest.all Micro.internal else storesLast rest

theorem Micro.request_of_internal {m : Micro} (h : m.internal = true) (s : State) : m.request s = none := by
  cases m with
  | setEa | setVal | setLo | pointer | act => rfl
  | _ => cases h

theorem Micro.not_stores_of_no_request {m : Micro} {s : State} (h : m.request s = none) : m.stores = false := by
  cases m with
  | write | writeBack => cases h
  | _ => rfl

theorem Micro.mapctl_of_not_stores {m : Micro} (h : m.stores = false) {s : State} {r : Request}
    (hr : m.request s = some r) (u : State) : (plainAccess r u).2.mapctl = u.mapctl := by
  have hread : ∀ a, (plainAccess (readReq a) u).2.mapctl = u.mapctl := fun _ => rfl
  cases m with
  | setEa | setVal | setLo | pointer | act => cases hr
  | write | writeBack => cases h
  | discard | read | pull => cases hr; exact hread _
  | operandHi => cases hr; rfl
  | discardIfCrossed =>
    simp only [Micro.request] at hr
    split at hr
    · cases hr; exact hread _
    · cases hr
  | push b =>
    cases hr
    simp [plainAccess_writeReq, stored]

theorem perform_now_of_internal {l : List Micro} (h : l.all Micro.internal = true) (s : State) :
    requestCount l s = 0 ∧ (perform l s).now = s.now := by
  induction l generalizing s with
  | nil => exact ⟨rfl, rfl⟩
  | cons m rest ih =>
    simp only [List.all_cons, Bool.and_eq_true] at h
    obtain ⟨hm, hrest⟩ := h
    have hr := Micro.request_of_internal hm s
    obtain ⟨-, -, hnow, -⟩ := m.after_frame 0 s
    rw [perform_internal hr, ← hnow]
    simpa only [requestCount, hr] using ih hrest (m.after 0 s)

section
variable {m : Micro} {rest : List Micro} {s : State} {r : Request}

theorem answered_eq (hb : SlowBus s.mapctl) :
    ∃ p, answered r m rest s =
      m.after (plainAccess r (suspend r (.running (m :: rest)) (m.before s))).1
        { (plainAccess r (suspend r (.running (m :: rest)) (m.before s))).2 with
          now := s.now + Config.slowCost, seqNext := p } := by
  obtain ⟨-, -, hnow, -, hmap, -⟩ := m.before_frame s
  have hbefore : SlowBus (suspend r (.running (m :: rest)) (m.before s)).mapctl := by
    rw [suspend_mapctl, hmap]
    exact hb
  obtain ⟨p, hserve⟩ := hbefore.serve r
  rw [suspend_now, hnow] at hserve
  exact ⟨p, by rw [answered, hserve]⟩

theorem answered_frame (hb : SlowBus s.mapctl) :
    (answered r m rest s).now = s.now + Config.slowCost ∧ (answered r m rest s).cpuRun = s.cpuRun ∧
      (answered r m rest s).queue = s.queue ∧ (answered r m rest s).spr = s.spr := by
  obtain ⟨p, heq⟩ := answered_eq (r := r) (m := m) (rest := rest) hb
  obtain ⟨hrun, hqueue, -, hspr, -⟩ := m.before_frame s
  rw [heq, plainAccess_frame]
  obtain ⟨urun, uqueue, unow, uspr, -⟩ := m.after_frame _ _
  exact ⟨unow, urun.trans hrun, uqueue.trans hqueue, uspr.trans hspr⟩

theorem answered_mapctl (hb : SlowBus s.mapctl) (hm : m.stores = false) (hr : m.request s = some r) :
    (answered r m rest s).mapctl = s.mapctl := by
  obtain ⟨p, heq⟩ := answered_eq (r := r) (m := m) (rest := rest) hb
  obtain ⟨-, -, -, -, hmap, -⟩ := m.before_frame s
  rw [heq]
  obtain ⟨-, -, -, -, umap, -⟩ := m.after_frame _ _
  exact umap.trans ((Micro.mapctl_of_not_stores hm hr _).trans hmap)

end

/-- On a slow bus every request of a sequence takes `slowCost`, if nothing falls due. -/
theorem perform_now {l : List Micro} {s : State} (hl : storesLast l = true) (hb : SlowBus s.mapctl)
    (hq : Quiet (requestCount l s) s) :
    (perform l s).now = s.now + requestCount l s * Config.slowCost := by
  induction l generalizing s with
  | nil => exact (congrArg (s.now + ·) (Nat.zero_mul _)).symm
  | cons m rest ih =>
    cases hr : m.request s with
    | none =>
      obtain ⟨hrun, hqueue, hnow, hspr, hmap, -⟩ := m.after_frame 0 s
      simp only [storesLast, Micro.not_stores_of_no_request hr] at hl
      simp only [requestCount, hr] at hq ⊢
      rw [perform_internal hr, ← hnow]
      exact ih hl (hmap ▸ hb) (quiet_congr hq hrun (by simp only [spriteActive, hspr]) hqueue hnow)
    | some r =>
      simp only [requestCount, hr] at hq ⊢
      obtain ⟨hrun, hqueue, hnow, hspr, -⟩ := m.before_frame s
      obtain ⟨unow, urun, uqueue, uspr⟩ := answered_frame (r := r) (m := m) (rest := rest) hb
      have hturn : turn (suspend r (.running (m :: rest)) (m.before s)) = .cpu :=
        turn_of_quiet (quiet_congr hq hrun (congrArg (·.st.active) hspr) hqueue hnow)
      have hquiet : Quiet (requestCount rest (answered r m rest s)) (answered r m rest s) :=
        quiet_after hq urun (congrArg (·.st.active) uspr) uqueue unow.le
      have hrest : (perform rest (answered r m rest s)).now =
          (answered r m rest s).now + requestCount rest (answered r m rest s) * Config.slowCost := by
        cases hm : m.stores with
        | true =>
          simp only [storesLast, hm, if_true] at hl
          obtain ⟨hzero, hkept⟩ := perform_now_of_internal hl (answered r m rest s)
          rw [hkept, hzero, Nat.zero_mul, Nat.add_zero]
        | false =>
          simp only [storesLast, hm, Bool.false_eq_true, if_false] at hl
          exact ih hl (answered_mapctl hb hm hr ▸ hb) hquiet
      rw [perform_request hr hturn]
      refine hrest.trans ?_
      rw [unow, Nat.add_mul, Nat.one_mul, Nat.add_assoc, Nat.add_comm Config.slowCost]

/-! ## The requests of the operand forms (70_reset_and_hazards.md R616) -/

/-- From `s` the sequence `l` makes `n` requests, and a store is the last of them. -/
structure Asks (n : Nat) (l : List Micro) (s : State) : Prop where
  stores : storesLast l = true
  count : requestCount l s = n

/-- `ea` makes `j` requests, and `x` more for a page crossed, whatever follows it. -/
def EaAsks (j x : Nat) (ea : List Micro) (s : State) : Prop :=
  ∀ ⦃k : Nat⦄ ⦃rest : List Micro⦄, (∀ u, Asks k rest u) → Asks (k + j + x) (ea ++ rest) s

section
variable {s : State}

theorem eaAsks_zp (z : Byte) : EaAsks 0 0 (eaZp z) s := fun _ _ h => ⟨(h s).stores, (h _).count⟩

theorem eaAsks_abs (a : Addr) : EaAsks 0 0 (eaAbs a) s := fun _ _ h => ⟨(h s).stores, (h _).count⟩

theorem eaAsks_zpIndexed (z i : Byte) (r : Regs) : EaAsks 1 0 (eaZpIndexed z i r) s :=
  fun _ _ h => ⟨(h s).stores, congrArg (· + 1) (h _).count⟩

theorem eaAsks_izp (z : Byte) : EaAsks 2 0 (eaIzp z) s :=
  fun _ _ h => ⟨(h s).stores, congrArg (· + 2) (h _).count⟩

theorem eaAsks_izx (z : Byte) (r : Regs) : EaAsks 3 0 (eaIzx z r) s :=
  fun _ _ h => ⟨(h s).stores, congrArg (· + 3) (h _).count⟩

theorem ifCrossed_eq (a : Addr) (i : Byte) : ifCrossed a i = if crosses a (a + zext i) then 1 else 0 := by
  simp only [ifCrossed, crosses, bne_iff_ne, ite_not]

theorem eaAsks_absIndexed (a : Addr) (i : Byte) (r : Regs) :
    EaAsks 0 (ifCrossed a i) (eaAbsIndexed false a i r) s := by
  intro k rest h
  rw [ifCrossed_eq, eaAbsIndexed]
  cases crosses a (a + zext i) with
  | true => exact ⟨(h s).stores, congrArg (· + 1) (h _).count⟩
  | false => exact ⟨(h s).stores, (h _).count⟩

/-- A read in page 0 is one request: its byte goes into a local, and page 0 stays as it is. -/
theorem requestCount_read_zext (z : Byte) (d : Loc) (rest : List Micro) :
    ∃ u : State, requestCount (.read (.fixed (zext z)) d :: rest) s = requestCount rest u + 1 ∧
      u.loc = s.loc.set d (byteAt s (zext z)) ∧ ∀ i, byteAt u (zext i) = byteAt s (zext i) := by
  set w := suspend (readReq (zext z)) (.running (.read (.fixed (zext z)) d :: rest)) s with hw
  have hbyte : byteAt w (zext z) = byteAt s (zext z) := by
    simp only [byteAt_plain (onChip_zext _ z), hw]
    rfl
  have hserve := serve_read (r := readReq (zext z)) (s := w) (onChip_zext w z) (by simp [readReq])
  refine ⟨(Micro.read (.fixed (zext z)) d).after (serve (readReq (zext z)) w).1 (serve (readReq (zext z)) w).2, rfl,
    ?_, fun i => ?_⟩
  · rw [hserve, ← hbyte]
    rfl
  · rw [hserve]
    simp only [byteAt_plain (onChip_zext _ i)]
    rfl

/-- The two reads of a pointer, and whether its sum with `i` crosses a page. -/
theorem requestCount_readPointer (z i : Byte) (rest : List Micro) :
    ∃ u : State, requestCount (readPointer z ++ .pointer i :: rest) s = requestCount rest u + 2 ∧
      u.loc.crossed = crosses (pointerAt s z) (pointerAt s z + zext i) := by
  obtain ⟨u₁, hcount₁, hloc₁, hbyte₁⟩ :=
    requestCount_read_zext (s := s) z .lo (.read (.fixed (zext (z + 1))) .hi :: .pointer i :: rest)
  obtain ⟨u₂, hcount₂, hloc₂, -⟩ := requestCount_read_zext (s := u₁) (z + 1) .hi (.pointer i :: rest)
  refine ⟨(Micro.pointer i).after 0 u₂, hcount₁.trans (congrArg (· + 1) hcount₂), ?_⟩
  simp only [Micro.after, hloc₂, hbyte₁, hloc₁]
  rfl

/-- The extra request of (zp),Y depends on the pointer that its two reads gave. -/
theorem eaAsks_izy (z : Byte) (r : Regs) : EaAsks 2 (ifCrossed (pointerAt s z) r.y) (eaIzy false z r) s := by
  intro k rest h
  refine ⟨(h s).stores, ?_⟩
  obtain ⟨u, hcount, hu⟩ :=
    requestCount_readPointer (s := s) z r.y (.discardIfCrossed (.fixed (zext (z + 1))) :: rest)
  refine hcount.trans ?_
  rw [ifCrossed_eq, ← hu]
  cases hx : u.loc.crossed with
  | true => simp only [requestCount, Micro.request, hx, if_true, (h _).count]
  | false => simp only [requestCount, Micro.request, hx, Bool.false_eq_true, if_false, (h _).count, Nat.add_zero]

theorem asks_decimalExtra {k : Nat} {rest : List Micro} {r : Regs} (h : ∀ u, Asks k rest u) :
    Asks (k + if r.p.d then 1 else 0) (decimalExtra r ++ rest) s := by
  rw [decimalExtra]
  cases r.p.d with
  | true => exact ⟨(h s).stores, congrArg (· + 1) (h _).count⟩
  | false => exact h s

/-- The end of ADC and SBC: the extra request of decimal mode, and the sum. -/
theorem asks_decimalAct (r : Regs) (e : Act) :
    Asks (if r.p.d then 1 else 0) (decimalExtra r ++ [.act e]) s := by
  simpa only [Nat.zero_add] using asks_decimalExtra (s := s) (r := r) (rest := [.act e]) fun _ => ⟨rfl, rfl⟩

theorem asks_arithSeq {j x : Nat} {ea : List Micro} {e : Act} {r : Regs} (h : EaAsks j x ea s) :
    Asks (1 + j + (x + if r.p.d then 1 else 0)) (arithSeq ea e r) s := by
  have hall := h (rest := Micro.read .ea .val :: (decimalExtra r ++ [Micro.act e])) fun u =>
    ⟨(asks_decimalAct (s := u) r e).stores, congrArg (· + 1) (asks_decimalAct r e).count⟩
  rw [arithSeq, List.append_assoc, List.append_assoc]
  rwa [show 1 + j + (x + if r.p.d then 1 else 0) = (if r.p.d then 1 else 0) + 1 + j + x by omega]

theorem asks_arithSeq_uncrossed {j : Nat} {ea : List Micro} {e : Act} {r : Regs} (h : EaAsks j 0 ea s) :
    Asks (1 + j + if r.p.d then 1 else 0) (arithSeq ea e r) s := by
  simpa only [Nat.zero_add] using asks_arithSeq h

theorem asks_arithImmSeq (v : Byte) (e : Act) (r : Regs) :
    Asks (0 + if r.p.d then 1 else 0) (arithImmSeq v e r) s :=
  ⟨(asks_decimalAct (s := s) r e).stores, (asks_decimalAct r e).count.trans (Nat.zero_add _).symm⟩

theorem asks_branchSeq (taken : Bool) (nn : Byte) (r : Regs) :
    Asks (0 + if taken then (if hiByte (r.pc + sext nn) = hiByte r.pc then 1 else 2) else 0)
      (branchSeq taken nn r) s := by
  cases taken with
  | false => exact ⟨rfl, rfl⟩
  | true =>
    by_cases hx : hiByte (r.pc + sext nn) = hiByte r.pc
    · have hc : crosses (branchTarget nn r) r.pc = false := by simp [crosses, branchTarget, hx]
      simp only [branchSeq, hc, hx, if_true]
      exact ⟨rfl, rfl⟩
    · have hc : crosses (branchTarget nn r) r.pc = true := by simp [crosses, branchTarget, hx]
      simp only [branchSeq, hc, hx, if_true]
      exact ⟨rfl, rfl⟩

end

/-! ## Every instruction (R616, R617) -/

/-- The table of R616 with its +1 entries, by what the count depends on: a page crossed, a branch taken, decimal
mode, or nothing. -/
theorem asks_program (i : Instr) (s : State) :
    Asks (laterRequests i + extraRequests i s) (program i s.regs) s := by
  cases i with
  | oraAby a | oraAbx a | aslAbx a | andAby a | bitAbx a | andAbx a | rolAbx a | eorAby a | eorAbx a | lsrAbx a
  | rorAbx a | ldaAby a | ldyAbx a | ldaAbx a | ldxAby a | cmpAby a | cmpAbx a =>
    exact eaAsks_absIndexed a _ s.regs fun u => ⟨rfl, rfl⟩
  | oraIzy z | andIzy z | eorIzy z | ldaIzy z | cmpIzy z => exact eaAsks_izy z s.regs fun u => ⟨rfl, rfl⟩
  | bpl nn | bmi nn | bvc nn | bvs nn | bcc nn | bcs nn | bne nn | beq nn => exact asks_branchSeq _ nn s.regs
  | bra nn => exact asks_branchSeq true nn s.regs
  | adcImm v | sbcImm v => exact asks_arithImmSeq v _ s.regs
  | adcZp z | sbcZp z => exact asks_arithSeq_uncrossed (eaAsks_zp z)
  | adcZpx z | sbcZpx z => exact asks_arithSeq_uncrossed (eaAsks_zpIndexed z _ s.regs)
  | adcIzx z | sbcIzx z => exact asks_arithSeq_uncrossed (eaAsks_izx z s.regs)
  | adcIzp z | sbcIzp z => exact asks_arithSeq_uncrossed (eaAsks_izp z)
  | adcAbs a | sbcAbs a => exact asks_arithSeq_uncrossed (eaAsks_abs a)
  | adcIzy z | sbcIzy z => exact asks_arithSeq (eaAsks_izy z s.regs)
  | adcAby a | sbcAby a | adcAbx a | sbcAbx a => exact asks_arithSeq (eaAsks_absIndexed a _ s.regs)
  | _ => exact ⟨rfl, rfl⟩

theorem laterRequests_le (i : Instr) : laterRequests i ≤ 6 := by
  cases i <;> exact Nat.le_of_ble_eq_true rfl

theorem ifCrossed_le (a : Addr) (i : Byte) : ifCrossed a i ≤ 1 := by
  rw [ifCrossed]
  split <;> decide

theorem extraRequests_le (i : Instr) (s : State) : extraRequests i s ≤ 2 := by
  simp only [extraRequests]
  split <;> grind [ifCrossed_le]

theorem Quiet.mono {m n : Nat} {s : State} (h : Quiet n s) (hm : m ≤ n) : Quiet m s := by
  obtain ⟨hrun, hspr, hdue⟩ := h
  have hmul : m * Config.slowCost ≤ n * Config.slowCost := Nat.mul_le_mul_right _ hm
  exact ⟨hrun, hspr, fun e he => Nat.lt_of_le_of_lt (Nat.add_le_add_left hmul _) (hdue e he)⟩

/-- Settles O27: the sequence of the instruction makes the requests of R616, and each takes `slowCost`. -/
theorem requestCounts : Obligations.RequestCounts := by
  intro i s hs hA hB hseq
  obtain ⟨hstores, hcount⟩ := asks_program i s
  have hfew : requestCount (program i s.regs) s ≤ 8 :=
    hcount ▸ Nat.add_le_add (laterRequests_le i) (extraRequests_le i s)
  refine ⟨_, exec_eq_next i s, ?_⟩
  rw [perform_now hstores ⟨hA, hB, hseq⟩ (hs.1.mono hfew), hcount]

end Sys2Proof.Machine
end
